-- ==== Sys2Proof/Word.lean ====
section
/-! DEFINITION. Word types: the widths the block's registers and ports have, and the operation word's one format.

Bits are numbered from the least significant bit (`00_scope.md` section 5); every register holds an unsigned integer. -/

namespace Sys2Proof

/-- A byte: a frame byte, an operand of an operation word, a transport error description (`EDESC_W = 8`). -/
abbrev Byte := BitVec 8

/-- A 16-bit value: an accumulator, a raw reading, the settle timer. -/
abbrev Word16 := BitVec 16

/-- A 32-bit value: an operation word on the command port, a value of the read port, a device identifier. -/
abbrev Word32 := BitVec 32

/-- The response frame of R66: eight bytes, index 0 the first received. -/
abbrev Frame := Vector Byte 8

/-- The four fields of an operation word (R60): `OPC` in bits 31:24, `A` in 23:16, `B` in 15:8, `C` in 7:0. -/
structure OpWord where
  opc : Byte
  a : Byte
  b : Byte
  c : Byte
  deriving DecidableEq, Repr

end Sys2Proof
end

