-- ==== Sys2Proof/Syntax.lean ====
section
/-! DEFINITION. The eleven operations of R61, one constructor per row of `spec/opcode_table.json`.

The document has no instruction set; an *operation* takes its place (`00_scope.md` section 1). Operands are whole bytes
with no extension, scaling or shifting (R62), so a byte type holds exactly the legal values and no operand can be
ill-formed. -/

namespace Sys2Proof

/-- An operation the host can issue (R61). -/
inductive Instr where
  /-- `CINIT` (R85): start of `compute(bytes)`. -/
  | cinit
  /-- `CBYTE b` (R86): one byte of `compute(bytes)`. -/
  | cbyte (b : Byte)
  /-- `COMPUTE n` (R87): checksum of the first `n` bytes of the frame buffer. -/
  | compute (n : Byte)
  /-- `FSTART` (R88): start of frame accumulation. -/
  | fstart
  /-- `FBYTE b` (R89): one byte of frame accumulation, comparison at the last byte. -/
  | fbyte (b : Byte)
  /-- `VERIFY` (R90): validate the frame in the frame buffer. -/
  | verify
  /-- `DECRD` (R105): decode a reading. -/
  | decrd
  /-- `DECID` (R106): decode a device identifier. -/
  | decid
  /-- `TRANSACT` (R112): one bus transaction, delivering the raw frame. -/
  | transact (command registerAddress registerCount : Byte)
  /-- `RDSENS` (R119): transaction, validation and reading decode as a unit. -/
  | rdsens (command registerAddress registerCount : Byte)
  /-- `RDUID` (R120): the same unit with the identifier decode. -/
  | rduid (command registerAddress registerCount : Byte)
  deriving DecidableEq, Repr

end Sys2Proof
end

