-- ==== Sys2Proof/WellFormed.lean ====
section
/-! DEFINITION. Which operation words are legal (R61, R63): the opcode is one of the eleven, and every field that R61
marks "0" is zero.

An `Instr` is well-formed by its type; what can be ill-formed is the WORD the host presents, so the check is on the four
fields of a word. It is written from the table of R61 alone, apart from the decoder, which must agree with it. -/

namespace Sys2Proof

/-- The eleven opcodes of R61. -/
def legalOpcodes : List Byte := [0x01, 0x02, 0x03, 0x04, 0x05, 0x06, 0x08, 0x09, 0x10, 0x11, 0x12]

/-- Opcodes whose field `A` R61 marks "0". -/
def aMustBeZero : List Byte := [0x01, 0x04, 0x06, 0x08, 0x09]

/-- Opcodes whose fields `B` and `C` R61 marks "0". -/
def bcMustBeZero : List Byte := [0x01, 0x02, 0x03, 0x04, 0x05, 0x06, 0x08, 0x09]

/-- The opcode is one of the eleven. -/
def OpWord.opcodeOk (o : OpWord) : Bool := legalOpcodes.contains o.opc

/-- Field `A` is zero where R61 marks it "0". -/
def OpWord.aOk (o : OpWord) : Bool := !aMustBeZero.contains o.opc || o.a == 0

/-- Field `B` is zero where R61 marks it "0". -/
def OpWord.bOk (o : OpWord) : Bool := !bcMustBeZero.contains o.opc || o.b == 0

/-- Field `C` is zero where R61 marks it "0". -/
def OpWord.cOk (o : OpWord) : Bool := !bcMustBeZero.contains o.opc || o.c == 0

/-- R63: an operation word is legal when no field makes it illegal. -/
def OpWord.wellFormed (o : OpWord) : Bool := o.opcodeOk && o.aOk && o.bOk && o.cOk

end Sys2Proof
end

