-- ==== Sys2Proof/Decode.lean ====
section
/-! DEFINITION. Decoding an operation word (R60 to R63) and encoding an operation.

Decoding is a pure function of the word (R62). A word that is no operation is refused by the name of the check it fails;
what the block does with such a word (the sticky fault ILLEGAL_OP) is in `Machine/Events.lean`. -/

namespace Sys2Proof

/-- Why a word is illegal (R63). -/
inductive DecodeError where
  /-- `OPC` is not one of the eleven values of R61. -/
  | unknownOpcode
  /-- Field `A` is not zero and R61 marks it "0". -/
  | nonzeroA
  /-- Field `B` is not zero and R61 marks it "0". -/
  | nonzeroB
  /-- Field `C` is not zero and R61 marks it "0". -/
  | nonzeroC
  deriving DecidableEq, Repr

/-- The four fields of a word (R60). -/
def unpack (w : Word32) : OpWord where
  opc := w.extractLsb' 24 8
  a := w.extractLsb' 16 8
  b := w.extractLsb' 8 8
  c := w.extractLsb' 0 8

/-- The word with the given four fields (R60): `{OPC, A, B, C}`. -/
def pack (o : OpWord) : Word32 := o.opc ++ o.a ++ o.b ++ o.c

/-- `B` and `C` must be zero (R63). -/
def requireZeroBC (o : OpWord) (i : Instr) : Except DecodeError Instr :=
  if o.b ≠ 0 then .error .nonzeroB else if o.c ≠ 0 then .error .nonzeroC else .ok i

/-- `A`, `B` and `C` must be zero (R63). -/
def requireZeroABC (o : OpWord) (i : Instr) : Except DecodeError Instr :=
  if o.a ≠ 0 then .error .nonzeroA else requireZeroBC o i

/-- The opcode map of R61 with the zero fields of R63. -/
def decodeFields (o : OpWord) : Except DecodeError Instr :=
  if o.opc = 0x01 then requireZeroABC o .cinit
  else if o.opc = 0x02 then requireZeroBC o (.cbyte o.a)
  else if o.opc = 0x03 then requireZeroBC o (.compute o.a)
  else if o.opc = 0x04 then requireZeroABC o .fstart
  else if o.opc = 0x05 then requireZeroBC o (.fbyte o.a)
  else if o.opc = 0x06 then requireZeroABC o .verify
  else if o.opc = 0x08 then requireZeroABC o .decrd
  else if o.opc = 0x09 then requireZeroABC o .decid
  else if o.opc = 0x10 then .ok (.transact o.a o.b o.c)
  else if o.opc = 0x11 then .ok (.rdsens o.a o.b o.c)
  else if o.opc = 0x12 then .ok (.rduid o.a o.b o.c)
  else .error .unknownOpcode

/-- Decoding an operation word (R62). -/
def decode (w : Word32) : Except DecodeError Instr := decodeFields (unpack w)

/-- The opcode of an operation (R61). -/
def opcode : Instr → Byte
  | .cinit => 0x01
  | .cbyte _ => 0x02
  | .compute _ => 0x03
  | .fstart => 0x04
  | .fbyte _ => 0x05
  | .verify => 0x06
  | .decrd => 0x08
  | .decid => 0x09
  | .transact _ _ _ => 0x10
  | .rdsens _ _ _ => 0x11
  | .rduid _ _ _ => 0x12

/-- The operand fields of an operation (R61): the operand bytes in `A`, `B`, `C`, zero where R61 says "0". -/
def fields (i : Instr) : OpWord :=
  match i with
  | .cbyte b | .compute b | .fbyte b => ⟨opcode i, b, 0, 0⟩
  | .transact c r n | .rdsens c r n | .rduid c r n => ⟨opcode i, c, r, n⟩
  | .cinit | .fstart | .verify | .decrd | .decid => ⟨opcode i, 0, 0, 0⟩

/-- The operation word of an operation (R60, R61). -/
def encode (i : Instr) : Word32 := pack (fields i)

/-- The column `mask` of `spec/opcode_table.json` for the row an operation belongs to. -/
def rowMask : Instr → Word32
  | .cinit => 0xFFFFFFFF
  | .cbyte _ => 0xFF00FFFF
  | .compute _ => 0xFF00FFFF
  | .fstart => 0xFFFFFFFF
  | .fbyte _ => 0xFF00FFFF
  | .verify => 0xFFFFFFFF
  | .decrd => 0xFFFFFFFF
  | .decid => 0xFFFFFFFF
  | .transact _ _ _ => 0xFF000000
  | .rdsens _ _ _ => 0xFF000000
  | .rduid _ _ _ => 0xFF000000

/-- The column `match` of `spec/opcode_table.json` for the row an operation belongs to. -/
def rowMatch : Instr → Word32
  | .cinit => 0x01000000
  | .cbyte _ => 0x02000000
  | .compute _ => 0x03000000
  | .fstart => 0x04000000
  | .fbyte _ => 0x05000000
  | .verify => 0x06000000
  | .decrd => 0x08000000
  | .decid => 0x09000000
  | .transact _ _ _ => 0x10000000
  | .rdsens _ _ _ => 0x11000000
  | .rduid _ _ _ => 0x12000000

/-- The word whose bits are the low `nbits` bits of `w`, every bit above them zero. The port takes the word whole, so
there is no byte order to lay out. -/
def tableWord (nbits w : Nat) : Word32 := BitVec.ofNat 32 (w % 2 ^ nbits)

/-- What the decoder reads from a word numbered as `spec/opcode_table.json` numbers it. -/
def decodeTableWord (nbits w : Nat) : Option Instr :=
  match decode (tableWord nbits w) with
  | .ok i => some i
  | .error _ => none

end Sys2Proof
end

