-- ==== Sys2Proof/Machine/World.lean ====
section
/-! DEFINITION. The world outside the block: the answers of the bus transport (R40), the calls the block makes to it
(R42), and the steps the block can take (R110).

R110 gives ten kinds of step and says that which enabled step comes next is not fixed. `Event` is that table, row for
row: it names the agent's choice and carries the draw that choice needs (the host's word, the transport's answer, the
host's register number). -/

namespace Sys2Proof.Machine

/-- The answer of one `BusWrite` (R40). -/
inductive WriteAnswer where
  | ok
  | err (desc : Byte)
  deriving DecidableEq, Repr, Inhabited

/-- The answer of one `BusRead` (R40): any byte sequence of any length, or a failure. -/
inductive ReadAnswer where
  | ok (bytes : List Byte)
  | err (desc : Byte)
  deriving DecidableEq, Repr, Inhabited

/-- A call the block makes to the bus transport (R40, R42). -/
inductive BusCall where
  /-- `BusWrite(addr, bytes)`. -/
  | write (addr : Nat) (bytes : List Byte)
  /-- `BusRead(addr, n)`. -/
  | read (addr : Nat) (n : Nat)
  deriving DecidableEq, Repr

/-- One row of the table of R110. -/
inductive Event where
  /-- accept(`w`): the host presents the word `w` on the command port. -/
  | present (w : Word32)
  /-- wake: the engine's step in `PH = WAKE`, with the transport's answer. -/
  | wake (a : WriteAnswer)
  /-- command: the engine's step in `PH = CMDW`, with the transport's answer. -/
  | command (a : WriteAnswer)
  /-- settle-exit: the engine's step in `PH = SETTLE` once `TMR = 0`. -/
  | settleExit
  /-- read: the engine's step in `PH = READ`, with the transport's answer. -/
  | read (a : ReadAnswer)
  /-- check: the engine's step in `PH = CHECK`. -/
  | check
  /-- decode: the engine's step in `PH = DECODE`. -/
  | decode
  /-- tick: the tick source's step. -/
  | tick
  /-- register read: the host reads the register with this read-port number (R24). -/
  | readReg (n : BitVec 5)
  /-- reset: the reset input's step (R170). -/
  | reset
  deriving DecidableEq, Repr, Inhabited

end Sys2Proof.Machine
end

