-- ==== Sys2Proof/Config.lean ====
section
/-! DEFINITION. The parameters of `00_scope.md` section 4, and the free values.

The parameters marked "fixed" or "decided" there are constants (R2). The parameters marked OPEN are constants with no
body: nothing in Lean can tell their value, so a claim holds whatever it is (R3). The free values are the draws the spec
gives the outside world and the registers reset leaves unspecified. -/

namespace Sys2Proof.Config

open Sys2Proof.Machine (Event)

/-- `FRAME_LEN`: bytes in a response frame. -/
abbrev frameLen : Nat := 8

/-- `HEADER_LEN`: header bytes at the start of a frame. -/
abbrev headerLen : Nat := 2

/-- `PAYLOAD_LEN`: payload bytes of a frame. -/
abbrev payloadLen : Nat := 4

/-- `CRC_LEN`: checksum bytes at the end of a frame. -/
abbrev crcLen : Nat := 2

/-- `CRC_POLY`: the reflected polynomial constant. -/
abbrev crcPoly : Word16 := 0xA001

/-- `CRC_INIT`: the initial checksum value. -/
abbrev crcInit : Word16 := 0xFFFF

/-- `SCALE_DIV`: the divisor of the fixed-point scale. -/
abbrev scaleDiv : Nat := 10

/-- `WAKE_LEN`: bytes in the wake write, decided 0 (log entry 8). -/
abbrev wakeLen : Nat := 0

/-- `SETTLE_TIME` in microseconds: nominal 2 ms, a lower bound. Only the platform's obligation R173 names it. -/
abbrev settleTime : Nat := 2000

/-- `DEV_ADDR`, OPEN: the address of the device on the two-wire bus, constant for the life of the model (R51). -/
opaque devAddr : Nat

/-- `WAKE_BYTE`, OPEN: the single wake byte, unused while `WAKE_LEN = 0`. -/
opaque wakeByte : Byte

/-- `TICK_PERIOD` in microseconds, OPEN. No step reads it; only the platform's obligation R173 names it. -/
opaque tickPeriod : Nat

/-- `SETTLE_TICKS - 1`, OPEN; any of 0 to 65534. -/
opaque settleTicksPred : Fin 65535

/-- `SETTLE_TICKS`, OPEN, at least 1 and at most 65535. -/
def settleTicks : Word16 := BitVec.ofNat 16 (settleTicksPred.val + 1)

/-- Free value: the step R110 leaves to be taken next, with its draw, for each count of draws (log entry 3). -/
opaque freeEvent : Nat → Event

/-- Free value: what byte `i` of the frame buffer holds after the reset with this draw number (R27, log entry 1). -/
opaque resetFb : Nat → Fin 8 → Byte

/-- Free value: `HUM` after reset (R27, log entry 1). -/
opaque resetHum : Nat → Word16

/-- Free value: `TMP` after reset (R27, log entry 1). -/
opaque resetTmp : Nat → Word16

/-- Free value: `UID` after reset (R27, log entry 1). -/
opaque resetUid : Nat → Word32

/-- Free value: `CMD` after reset (R27, log entry 1). -/
opaque resetCmd : Nat → Byte

/-- Free value: `RADDR` after reset (R27, log entry 1). -/
opaque resetRaddr : Nat → Byte

/-- Free value: `RCNT` after reset (R27, log entry 1). -/
opaque resetRcnt : Nat → Byte

end Sys2Proof.Config
end

