-- ==== Sys2Proof/Machine/Operands.lean ====
section
/-! DEFINITION. The data functions of the spec: assembling integers from bytes (R67), the checksum algorithm (R80 to
R82), the two decode functions (R100, R101), the scaled pair (R68) and the bus frames the block sends (R64, R65). All of
them are functions of their arguments alone. -/

namespace Sys2Proof.Machine

/-- R67: the 16-bit integer whose low byte comes first. -/
def le16 (lo hi : Byte) : Word16 := (hi.setWidth 16 <<< 8) ||| lo.setWidth 16

/-- R67: the 16-bit integer whose high byte comes first. -/
def be16 (hi lo : Byte) : Word16 := (hi.setWidth 16 <<< 8) ||| lo.setWidth 16

/-- R67: the 32-bit integer whose highest byte comes first. -/
def be32 (b0 b1 b2 b3 : Byte) : Word32 :=
  (b0.setWidth 32 <<< 24) ||| (b1.setWidth 32 <<< 16) ||| (b2.setWidth 32 <<< 8) ||| b3.setWidth 32

/-- R80: one of the eight iterations. The low bit is tested before the shift; the XOR comes after it. -/
def crcBit (x : Word16) : Word16 := if x.getLsbD 0 then (x >>> 1) ^^^ Config.crcPoly else x >>> 1

/-- R80: `n` iterations. -/
def crcBits : Nat → Word16 → Word16
  | 0, x => x
  | n + 1, x => crcBits n (crcBit x)

/-- R80: `crc_byte(acc, b)`, absorb one byte. -/
def crcByte (acc : Word16) (b : Byte) : Word16 := crcBits 8 (acc ^^^ b.setWidth 16)

/-- R81: `crc16(bytes)`, from `CRC_INIT`, with no final operation. -/
def crc16 (bytes : List Byte) : Word16 := bytes.foldl crcByte Config.crcInit

/-- The checksummed part of a frame: all bytes but the final two (R66, R82). -/
def summedPart (f : Frame) : List Byte := f.toList.take (Config.frameLen - Config.crcLen)

/-- The received checksum of a frame: its final two bytes, little-endian (R44). -/
def receivedCrc (f : Frame) : Word16 := le16 f[6] f[7]

/-- R82: `frame_valid(f)`. -/
def frameValid (f : Frame) : Bool := crc16 (summedPart f) == receivedCrc f

/-- A decoded reading, in the order of the contract (R100): temperature first. -/
structure Reading where
  temperature : Word16
  humidity : Word16
  deriving DecidableEq, Repr

/-- R100: `decode_reading([p0, p1, p2, p3])`. -/
def decodeReading (p0 p1 p2 p3 : Byte) : Reading := ⟨be16 p2 p3, be16 p0 p1⟩

/-- R101: `decode_uid([p0, p1, p2, p3])`. -/
def decodeUid (p0 p1 p2 p3 : Byte) : Word32 := be32 p0 p1 p2 p3

/-- The reading in a frame's payload, bytes 2 to 5 (R45, R66). -/
def frameReading (f : Frame) : Reading := decodeReading f[2] f[3] f[4] f[5]

/-- The identifier in a frame's payload, bytes 2 to 5 (R45, R66). -/
def frameUid (f : Frame) : Word32 := decodeUid f[2] f[3] f[4] f[5]

/-- R68: the integer part of the value `r / 10`. -/
def scaledInt (r : Word16) : Nat := r.toNat / Config.scaleDiv

/-- R68: the tenths digit of the value `r / 10`. -/
def scaledTenths (r : Word16) : Nat := r.toNat % Config.scaleDiv

/-- R65: the wake frame, empty because `WAKE_LEN = 0`. -/
def wakeFrame : List Byte := if Config.wakeLen = 0 then [] else [Config.wakeByte]

/-- R64: the command frame. -/
def commandFrame (command registerAddress registerCount : Byte) : List Byte :=
  [command, registerAddress, registerCount]

end Sys2Proof.Machine
end

