-- ==== Sys2Proof/Machine/State.lean ====
section
/-! DEFINITION. The state of the block (R10), what the model adds to it to run it, and the state after reset (R27). -/

namespace Sys2Proof.Machine

/-- The sequencer phase `PH` (R19). The reserved encoding 7 is unrepresentable (U6, log entry 5). -/
inductive Phase where
  | idle
  | wake
  | cmdw
  | settle
  | read
  | check
  | decode
  deriving DecidableEq, Repr

/-- The cause of an error or fault, `CAUSE` (R140). The reserved codes 6 to 15 are unrepresentable (U6, log entry 5). -/
inductive Cause where
  | none
  | transport
  | length
  | checksum
  | invariant
  | illegalOp
  deriving DecidableEq, Repr

/-- Reasons to stop with a fault. There are none: the two sticky faults of R143 have a full effect in the spec and are
taken as next states with `FAULT = 1`, and no step of R110 stops the machine (log entry 6). -/
inductive Fault where
  deriving DecidableEq, Repr

/-- Reasons to refuse. -/
inductive Refusal where
  /-- Raised by no meaning: for an arm of `exec` whose operation has no meaning yet; every operation has one.
  Safe: the model would stop where the block goes on. -/
  | notModelled (mnemonic : String)
  deriving DecidableEq, Repr

/-- The state: every register of R10, then the model's own fields, which say what the outside world does and has seen. -/
@[ext]
structure State where
  /-- `ACC` (R11): the running checksum of the `compute` stream. -/
  acc : Word16
  /-- `FACC` (R11): the frame accumulator. -/
  facc : Word16
  /-- `FB[0..7]` (R12): the frame buffer. -/
  fb : Frame
  /-- `CNT` (R13): frame bytes accumulated, 0 to 8; the encodings 9 to 15 are unrepresentable (U6, log entry 5). -/
  cnt : Fin 9
  /-- `HUM` (R14): raw humidity, tenths of a unit. -/
  hum : Word16
  /-- `TMP` (R14): raw temperature, tenths of a unit. -/
  tmp : Word16
  /-- `UID` (R15): device identifier. -/
  uid : Word32
  /-- `OPR` (R16): opcode of the most recently accepted operation. -/
  opr : Byte
  /-- `CMD` (R16): command byte of the current or last sequencer operation. -/
  cmd : Byte
  /-- `RADDR` (R16): register address operand. -/
  raddr : Byte
  /-- `RCNT` (R16): register count operand. -/
  rcnt : Byte
  /-- `PH` (R19): sequencer phase. -/
  ph : Phase
  /-- `TMR` (R17): settle timer, ticks still to wait. -/
  tmr : Word16
  /-- `DONE` (R20): the most recently accepted operation has ended. -/
  done : Bool
  /-- `ERR` (R20): it ended with an error or fault. -/
  err : Bool
  /-- `FAULT` (R20): a sticky fault has happened since reset. -/
  fault : Bool
  /-- `WF` (R20): the wake write of the current or last sequencer operation failed. -/
  wf : Bool
  /-- `FV` (R20): the frame buffer holds a complete frame. -/
  fv : Bool
  /-- `V` (R20): the frame in the frame buffer passed the checksum comparison. -/
  v : Bool
  /-- `RV` (R20): `HUM` and `TMP` hold a decoded reading. -/
  rv : Bool
  /-- `UV` (R20): `UID` holds a decoded identifier. -/
  uv : Bool
  /-- `CAUSE` (R140): what ended the last operation badly. -/
  cause : Cause
  /-- `EPH` (R23): the phase in which that error was raised. -/
  eph : Phase
  /-- `EDESC` (R18): transport error description of the failed command write or read. -/
  edesc : Byte
  /-- `WDESC` (R18): transport error description of the failed wake write. -/
  wdesc : Byte
  /-- The model's own: the steps the outside world will choose next, oldest first (R110, log entry 3). -/
  script : List Event
  /-- The model's own: how many free values have been drawn (log entry 3). -/
  draws : Nat
  /-- The model's own: the calls the block has made to the transport, oldest first (R42, log entry 4). -/
  calls : List BusCall
  /-- The model's own: the read port's answers so far, register number and value, oldest first (R24, log entry 4). -/
  reads : List (BitVec 5 × Word32)
  deriving DecidableEq, Repr

/-- The state after reset (R27, R170). The registers R27 leaves unspecified hold free values (draw 0, log entry 1); the
model's own fields start empty (log entry 3). -/
def State.reset : State where
  acc := Config.crcInit
  facc := Config.crcInit
  fb := Vector.ofFn (Config.resetFb 0)
  cnt := 0
  hum := Config.resetHum 0
  tmp := Config.resetTmp 0
  uid := Config.resetUid 0
  opr := 0
  cmd := Config.resetCmd 0
  raddr := Config.resetRaddr 0
  rcnt := Config.resetRcnt 0
  ph := .idle
  tmr := 0
  done := false
  err := false
  fault := false
  wf := false
  fv := false
  v := false
  rv := false
  uv := false
  cause := .none
  eph := .idle
  edesc := 0
  wdesc := 0
  script := []
  draws := 1
  calls := []
  reads := []

end Sys2Proof.Machine
end

