-- ==== Sys2Proof/Machine/Ops.lean ====
section
/-! DEFINITION. The named operations over the state: when the port is ready (R60), accept-common (R111), the ends of an
operation (R122), raising an error or a fault (R142, R143), the bus calls (R42), the accept step the three sequencer
operations share (R112), reset (R170), and taking the outside world's next choice (R110). -/

namespace Sys2Proof.Machine

open Host (Outcome)

/-- R60: the command port is ready exactly when `PH = IDLE` and `FAULT = 0`. -/
def State.ready (s : State) : Bool := s.ph == .idle && !s.fault

/-- R111: what every accepted word does first. -/
def acceptCommon (opc : Byte) (s : State) : State :=
  { s with opr := opc, done := false, err := false, cause := .none, eph := .idle, edesc := 0 }

/-- The end of a local operation, `DONE <- 1` (R85 to R90, R105, R106). -/
def finish (s : State) : State := { s with done := true }

/-- R122: `complete`, the normal end of a sequencer operation. -/
def complete (s : State) : State := { s with ph := .idle, done := true }

/-- R142: `raise CommError(cause, desc)`. The phase recorded is the one before the step. -/
def raiseComm (cause : Cause) (desc : Byte) (s : State) : State :=
  { s with err := true, cause := cause, eph := s.ph, edesc := desc, ph := .idle, done := true }

/-- R143: `raise Fault(cause)`. -/
def raiseFault (cause : Cause) (s : State) : State :=
  { s with err := true, fault := true, cause := cause, eph := .idle, edesc := 0, ph := .idle, done := true }

/-- An accept step: accept-common, then the operation's own effect, in one step (R111). A word presented while the port
is not ready is not taken and nothing changes (R60). -/
def acceptOp (opc : Byte) (body : State → State) (s : State) : Outcome State Fault Refusal :=
  if s.ready then .next (body (acceptCommon opc s)) else .next s

/-- R63, R111: a ready port accepts an illegal word by raising ILLEGAL_OP; `OPR` takes the offending opcode byte. -/
def acceptIllegal (w : Word32) (s : State) : Outcome State Fault Refusal :=
  acceptOp (unpack w).opc (raiseFault .illegalOp) s

/-- R112: the accept step of TRANSACT after accept-common, which RDSENS and RDUID share. -/
def startTransaction (command registerAddress registerCount : Byte) (s : State) : State :=
  { s with
    cmd := command, raddr := registerAddress, rcnt := registerCount, wf := false, wdesc := 0, cnt := 0,
    facc := Config.crcInit, fv := false, v := false, ph := .wake }

/-- A call on the bus transport is made: the model records it (R42). -/
def logCall (c : BusCall) (s : State) : State := { s with calls := s.calls ++ [c] }

/-- R42, R113: the call of the wake step. -/
def wakeCall : BusCall := .write Config.devAddr wakeFrame

/-- R42, R114: the call of the command step. -/
def commandCall (s : State) : BusCall := .write Config.devAddr (commandFrame s.cmd s.raddr s.rcnt)

/-- R42, R116: the call of the read step. -/
def readCall : BusCall := .read Config.devAddr Config.frameLen

/-- R89, R116: the frame whose byte `i` is `bytes[i]`. -/
def frameOfList (bytes : List Byte) (h : bytes.length = Config.frameLen) : Frame := ⟨bytes.toArray, by simpa using h⟩

/-- R170: every register at its reset value; the unspecified ones hold free values of a fresh draw (R27, log entry 14).
The outside world's fields are not the block's and stay. -/
def resetBlock (s : State) : State :=
  { State.reset with
    fb := Vector.ofFn (Config.resetFb s.draws), hum := Config.resetHum s.draws, tmp := Config.resetTmp s.draws,
    uid := Config.resetUid s.draws, cmd := Config.resetCmd s.draws, raddr := Config.resetRaddr s.draws,
    rcnt := Config.resetRcnt s.draws,
    script := s.script, draws := s.draws + 1, calls := s.calls, reads := s.reads }

/-- The outside world's next choice (R110): the oldest of the script, or a free value where the script is empty. -/
def nextEvent (s : State) : Event :=
  match s.script with
  | e :: _ => e
  | [] => Config.freeEvent s.draws

/-- The state once the next choice is taken out of the script, or drawn. -/
def takeChoice (s : State) : State :=
  match s.script with
  | _ :: rest => { s with script := rest }
  | [] => { s with draws := s.draws + 1 }

end Sys2Proof.Machine
end

