-- ==== Sys2Proof/Machine/Checksum.lean ====
section
/-! DEFINITION. The six operations of the checksum validator CV (`40_checksum.md`). Each is local: accepted and finished
in one step. A `…Body` is what its rule writes after accept-common. -/

namespace Sys2Proof.Machine

open Host (Outcome)

/-- R85 after accept-common. -/
def cinitBody (s : State) : State := finish { s with acc := Config.crcInit }

/-- R85: `CINIT`. -/
def execCinit (s : State) : Outcome State Fault Refusal := acceptOp (opcode .cinit) cinitBody s

/-- R86 after accept-common. -/
def cbyteBody (b : Byte) (s : State) : State := finish { s with acc := crcByte s.acc b }

/-- R86: `CBYTE b`. -/
def execCbyte (b : Byte) (s : State) : Outcome State Fault Refusal := acceptOp (opcode (.cbyte b)) (cbyteBody b) s

/-- R87 after accept-common. -/
def computeBody (n : Byte) (s : State) : State :=
  if s.cnt.val < n.toNat then raiseFault .invariant s
  else finish { s with acc := crc16 (s.fb.toList.take n.toNat) }

/-- R87: `COMPUTE n`. -/
def execCompute (n : Byte) (s : State) : Outcome State Fault Refusal := acceptOp (opcode (.compute n)) (computeBody n) s

/-- R88 after accept-common. -/
def fstartBody (s : State) : State := finish { s with cnt := 0, facc := Config.crcInit, fv := false, v := false }

/-- R88: `FSTART`. -/
def execFstart (s : State) : Outcome State Fault Refusal := acceptOp (opcode .fstart) fstartBody s

/-- R89: the frame accumulator after byte number `k` of a frame; bytes 6 and 7 are stored, not summed. -/
def frameSum (k : Nat) (facc : Word16) (b : Byte) : Word16 :=
  if k < Config.frameLen - Config.crcLen then crcByte facc b else facc

/-- R89 where the buffer is not full: store byte `k = CNT`, sum it, and compare at byte 7. -/
def storeFrameByte (b : Byte) (s : State) (h : s.cnt.val < Config.frameLen) : State :=
  let last : Bool := s.cnt.val == Config.frameLen - 1
  { s with
    fb := s.fb.set s.cnt.val b h
    facc := frameSum s.cnt.val s.facc b
    cnt := ⟨s.cnt.val + 1, Nat.succ_lt_succ h⟩
    fv := last || s.fv
    v := if last then frameSum s.cnt.val s.facc b == le16 s.fb[6] b else s.v }

/-- R89 after accept-common. -/
def fbyteBody (b : Byte) (s : State) : State :=
  if h : s.cnt.val < Config.frameLen then finish (storeFrameByte b s h)
  else raiseComm .length 0 { s with fv := false, v := false }

/-- R89: `FBYTE b`. -/
def execFbyte (b : Byte) (s : State) : Outcome State Fault Refusal := acceptOp (opcode (.fbyte b)) (fbyteBody b) s

/-- The computation and comparison that VERIFY and the check step share (R90, R117). -/
def compareFrame (s : State) : State := { s with facc := crc16 (summedPart s.fb), v := frameValid s.fb }

/-- R90 after accept-common. -/
def verifyBody (s : State) : State := if s.fv then finish (compareFrame s) else raiseFault .invariant s

/-- R90: `VERIFY`. -/
def execVerify (s : State) : Outcome State Fault Refusal := acceptOp (opcode .verify) verifyBody s

end Sys2Proof.Machine
end

