-- ==== Sys2Proof/Machine/Decoder.lean ====
section
/-! DEFINITION. The two operations of the reading decoder RD (`41_decoder.md`). Both are local and need a complete,
validated frame (R104). -/

namespace Sys2Proof.Machine

open Host (Outcome)

/-- The decoded reading goes to its registers (R105, R118). -/
def deliverReading (s : State) : State :=
  { s with hum := (frameReading s.fb).humidity, tmp := (frameReading s.fb).temperature, rv := true }

/-- The decoded identifier goes to its register (R106, R118). -/
def deliverUid (s : State) : State := { s with uid := frameUid s.fb, uv := true }

/-- R105 after accept-common. -/
def decrdBody (s : State) : State := if s.fv && s.v then finish (deliverReading s) else raiseFault .invariant s

/-- R105: `DECRD`. -/
def execDecrd (s : State) : Outcome State Fault Refusal := acceptOp (opcode .decrd) decrdBody s

/-- R106 after accept-common. -/
def decidBody (s : State) : State := if s.fv && s.v then finish (deliverUid s) else raiseFault .invariant s

/-- R106: `DECID`. -/
def execDecid (s : State) : Outcome State Fault Refusal := acceptOp (opcode .decid) decidBody s

end Sys2Proof.Machine
end

