-- ==== Sys2Proof/Machine/Sequencer.lean ====
section
/-! DEFINITION. The three operations of the bus transaction sequencer BT and the engine's steps (`42_sequencer.md`).

A sequencer operation is several steps (R50): `exec` is its accept step, and the engine's steps of R113 to R118 carry it
through its phases (log entry 15). Each engine step here is total: where its phase is not the current one, or the settle
timer is not 0, it is not enabled and nothing changes (R110, log entry 7). -/

namespace Sys2Proof.Machine

open Host (Outcome)

/-- R112: `TRANSACT`, the accept step. -/
def execTransact (command registerAddress registerCount : Byte) (s : State) : Outcome State Fault Refusal :=
  acceptOp (opcode (.transact command registerAddress registerCount))
    (startTransaction command registerAddress registerCount) s

/-- R119 after accept-common: everything of R112, and the old reading is invalidated. -/
def rdsensBody (command registerAddress registerCount : Byte) (s : State) : State :=
  { startTransaction command registerAddress registerCount s with rv := false }

/-- R119: `RDSENS`, the accept step. -/
def execRdsens (command registerAddress registerCount : Byte) (s : State) : Outcome State Fault Refusal :=
  acceptOp (opcode (.rdsens command registerAddress registerCount))
    (rdsensBody command registerAddress registerCount) s

/-- R120 after accept-common: everything of R112, and the old identifier is invalidated. -/
def rduidBody (command registerAddress registerCount : Byte) (s : State) : State :=
  { startTransaction command registerAddress registerCount s with uv := false }

/-- R120: `RDUID`, the accept step. -/
def execRduid (command registerAddress registerCount : Byte) (s : State) : Outcome State Fault Refusal :=
  acceptOp (opcode (.rduid command registerAddress registerCount))
    (rduidBody command registerAddress registerCount) s

/-- R113: what the answer of the wake write does. A failure is remembered and raises nothing. -/
def afterWake (a : WriteAnswer) (s : State) : State :=
  match a with
  | .ok => { s with ph := .cmdw }
  | .err d => { s with wf := true, wdesc := d, ph := .cmdw }

/-- R113: the wake step. -/
def wakeStep (a : WriteAnswer) (s : State) : State :=
  if s.ph = .wake then afterWake a (logCall wakeCall s) else s

/-- R114: what the answer of the command write does. -/
def afterCommand (a : WriteAnswer) (s : State) : State :=
  match a with
  | .ok => { s with tmr := Config.settleTicks, ph := .settle }
  | .err d => raiseComm .transport d s

/-- R114: the command step. -/
def commandStep (a : WriteAnswer) (s : State) : State :=
  if s.ph = .cmdw then afterCommand a (logCall (commandCall s) s) else s

/-- R115: the settle-exit step, enabled only when `TMR = 0`. -/
def settleExitStep (s : State) : State := if s.ph = .settle ∧ s.tmr = 0 then { s with ph := .read } else s

/-- R116: a whole frame has been read; TRANSACT ends here, RDSENS and RDUID go on. -/
def storeFrame (f : Frame) (s : State) : State :=
  let s' := { s with fb := f, cnt := 8, fv := true }
  if s.opr = opcode (.transact 0 0 0) then complete s' else { s' with ph := .check }

/-- R116: what the answer of the read does. A frame is stored whole or not at all. -/
def afterRead (a : ReadAnswer) (s : State) : State :=
  match a with
  | .err d => raiseComm .transport d s
  | .ok bytes =>
    if h : bytes.length = Config.frameLen then storeFrame (frameOfList bytes h) s else raiseComm .length 0 s

/-- R116: the read step. -/
def readStep (a : ReadAnswer) (s : State) : State :=
  if s.ph = .read then afterRead a (logCall readCall s) else s

/-- R117: validate the frame just read. -/
def checkFrame (s : State) : State :=
  let s' := compareFrame s
  if frameValid s.fb then { s' with ph := .decode } else raiseComm .checksum 0 s'

/-- R117: the check step. -/
def checkStep (s : State) : State := if s.ph = .check then checkFrame s else s

/-- R118: decode the validated payload. -/
def deliverFrame (s : State) : State :=
  if s.opr = opcode (.rdsens 0 0 0) then complete (deliverReading s) else complete (deliverUid s)

/-- R118: the decode step. -/
def decodeStep (s : State) : State := if s.ph = .decode then deliverFrame s else s

/-- R123: the tick step. -/
def tickStep (s : State) : State := if s.ph = .settle ∧ 0 < s.tmr then { s with tmr := s.tmr - 1 } else s

end Sys2Proof.Machine
end

