-- ==== Sys2Proof/Machine/Dispatch.lean ====
section
/-! DEFINITION. One arm per operation: its meaning, which is the step that accepts it (R61, R110). -/

namespace Sys2Proof.Machine

def exec (i : Instr) (s : State) : Host.Outcome State Fault Refusal :=
  match i with
  | .cinit => Sys2Proof.Machine.execCinit s
  | .cbyte b => Sys2Proof.Machine.execCbyte b s
  | .compute n => Sys2Proof.Machine.execCompute n s
  | .fstart => Sys2Proof.Machine.execFstart s
  | .fbyte b => Sys2Proof.Machine.execFbyte b s
  | .verify => Sys2Proof.Machine.execVerify s
  | .decrd => Sys2Proof.Machine.execDecrd s
  | .decid => Sys2Proof.Machine.execDecid s
  | .transact command registerAddress registerCount => Sys2Proof.Machine.execTransact command registerAddress registerCount s
  | .rdsens command registerAddress registerCount => Sys2Proof.Machine.execRdsens command registerAddress registerCount s
  | .rduid command registerAddress registerCount => Sys2Proof.Machine.execRduid command registerAddress registerCount s

end Sys2Proof.Machine
end

