-- ==== Sys2Proof/Machine/Flags.lean ====
section
/-! DEFINITION. What the host sees: the status bits that are functions of the state (R21), the packed views STATUS and
ERRINFO (R22, R23), the derived views (R25), the read port (R24) and the level outputs (R147). -/

namespace Sys2Proof.Machine

/-- The number of a phase (R19). -/
def Phase.code : Phase → BitVec 3
  | .idle => 0
  | .wake => 1
  | .cmdw => 2
  | .settle => 3
  | .read => 4
  | .check => 5
  | .decode => 6

/-- The code of a cause (R140). -/
def Cause.code : Cause → BitVec 4
  | .none => 0
  | .transport => 1
  | .length => 2
  | .checksum => 3
  | .invariant => 4
  | .illegalOp => 5

/-- R141: causes 1, 2 and 3 are the document's CommunicationError. -/
def Cause.isComm : Cause → Bool
  | .transport | .length | .checksum => true
  | .none | .invariant | .illegalOp => false

/-- R21: `BUSY`. -/
def State.busy (s : State) : Bool := s.ph != .idle

/-- R21: `CE`, the last operation ended in a CommunicationError. -/
def State.commError (s : State) : Bool := s.err && s.cause.isComm

/-- R22: `STATUS`, bit 0 last. -/
def State.status (s : State) : Word32 :=
  0#22 ++ BitVec.ofBool s.uv ++ BitVec.ofBool s.rv ++ BitVec.ofBool s.v ++ BitVec.ofBool s.fv ++ BitVec.ofBool s.wf ++
    BitVec.ofBool s.fault ++ BitVec.ofBool s.commError ++ BitVec.ofBool s.err ++ BitVec.ofBool s.done ++
    BitVec.ofBool s.busy

/-- R23: `ERRINFO`. -/
def State.errinfo (s : State) : Word32 :=
  0#8 ++ s.wdesc ++ s.edesc ++ 0#1 ++ s.eph.code ++ s.cause.code

/-- R25: `RXCRC`, the received checksum. -/
def State.rxcrc (s : State) : Word16 := receivedCrc s.fb

/-- Read-port number 0x0C (R24): the latches in the layout of the operation word. -/
def State.operands (s : State) : Word32 := pack ⟨s.opr, s.cmd, s.raddr, s.rcnt⟩

/-- R24: what the read port answers for a register number. -/
def State.readPort (s : State) (n : BitVec 5) : Word32 :=
  match n.toNat with
  | 0x00 => s.status
  | 0x01 => s.errinfo
  | 0x02 => s.acc.setWidth 32
  | 0x03 => s.rxcrc.setWidth 32
  | 0x04 => BitVec.ofNat 32 s.cnt.val
  | 0x05 => s.hum.setWidth 32
  | 0x06 => s.tmp.setWidth 32
  | 0x07 => s.uid
  | 0x08 => BitVec.ofNat 32 (scaledInt s.hum)
  | 0x09 => BitVec.ofNat 32 (scaledTenths s.hum)
  | 0x0A => BitVec.ofNat 32 (scaledInt s.tmp)
  | 0x0B => BitVec.ofNat 32 (scaledTenths s.tmp)
  | 0x0C => s.operands
  | 0x0D => s.tmr.setWidth 32
  | 0x0E => s.ph.code.setWidth 32
  | 0x0F => s.facc.setWidth 32
  | 0x10 => s.fb[0].setWidth 32
  | 0x11 => s.fb[1].setWidth 32
  | 0x12 => s.fb[2].setWidth 32
  | 0x13 => s.fb[3].setWidth 32
  | 0x14 => s.fb[4].setWidth 32
  | 0x15 => s.fb[5].setWidth 32
  | 0x16 => s.fb[6].setWidth 32
  | 0x17 => s.fb[7].setWidth 32
  | _ => 0

/-- R147: the four level outputs. -/
structure Outputs where
  busy : Bool
  done : Bool
  err : Bool
  fault : Bool
  deriving DecidableEq, Repr

/-- R147: the level outputs copy status bits. -/
def State.outputs (s : State) : Outputs := ⟨s.busy, s.done, s.err, s.fault⟩

/-- R24, R110: a register read answers and changes nothing of the block; the model records the answer. -/
def readRegister (n : BitVec 5) (s : State) : State := { s with reads := s.reads ++ [(n, s.readPort n)] }

end Sys2Proof.Machine
end

