-- ==== Sys2Proof/Machine/Events.lean ====
section
/-! DEFINITION. What each row of R110's table does: the command port (R60, R111), the engine's steps, the tick, a register
read and reset. -/

namespace Sys2Proof.Machine

open Host (Outcome)

/-- R60, R111: the word `w` on the command port. A legal word is the operation it decodes to; an illegal one raises
ILLEGAL_OP when the port is ready. -/
def presentWord (w : Word32) (s : State) : Outcome State Fault Refusal :=
  match decode w with
  | .ok i => exec i s
  | .error _ => acceptIllegal w s

/-- R110: the step an event names. -/
def takeEvent (e : Event) (s : State) : Outcome State Fault Refusal :=
  match e with
  | .present w => presentWord w s
  | .wake a => .next (wakeStep a s)
  | .command a => .next (commandStep a s)
  | .settleExit => .next (settleExitStep s)
  | .read a => .next (readStep a s)
  | .check => .next (checkStep s)
  | .decode => .next (decodeStep s)
  | .tick => .next (tickStep s)
  | .readReg n => .next (readRegister n s)
  | .reset => .next (resetBlock s)

/-- The state in which the host is about to present `w` on a ready command port (log entry 13). -/
def presentNext (s : State) (w : Word32) : State :=
  { s with ph := .idle, fault := false, script := .present w :: s.script }

end Sys2Proof.Machine
end

