-- ==== Sys2Proof/Machine/Step.lean ====
section
/-! DEFINITION. One step of the machine (R110): take the outside world's next choice and do what its row says. -/

namespace Sys2Proof.Machine

/-- One step (R110). -/
def step (s : State) : Host.Outcome State Fault Refusal := takeEvent (nextEvent s) (takeChoice s)

/-- `s` with the word numbered as `spec/opcode_table.json` numbers it on a ready command port, to be accepted by the very
next step (log entry 13). -/
def State.withFetchWord (s : State) (nbits w : Nat) : State := presentNext s (tableWord nbits w)

end Sys2Proof.Machine
end

