-- ==== Sys2Proof/Safety.lean ====
section
/-! DEFINITION. What claims about the block are stated in: runs, what a correct host and platform owe the block (R172 to
R179), the invariants of R30, the phase graph of R110, and which registers a run may not depend on (R27).

Nothing here is part of the step: the host's duties are predicates a claim may assume, not checks the block makes. -/

namespace Sys2Proof.Machine

open Host (Outcome)

/-! ## Runs -/

/-- `k` steps of the machine. -/
def run : Nat → State → Outcome State Fault Refusal
  | 0, s => .next s
  | k + 1, s =>
    match step s with
    | .next t => run k t
    | .fault r => .fault r
    | .refused r => .refused r

/-- The operations of a program presented one after another (R69), with no other step between them. -/
def runOps : List Instr → State → Outcome State Fault Refusal
  | [], s => .next s
  | i :: rest, s =>
    match exec i s with
    | .next t => runOps rest t
    | .fault r => .fault r
    | .refused r => .refused r

/-- TRANSACT, RDSENS and RDUID pass through phases; every other operation is local (glossary of `00_scope.md`). -/
def isSequencer : Instr → Bool
  | .transact _ _ _ | .rdsens _ _ _ | .rduid _ _ _ => true
  | .cinit | .cbyte _ | .compute _ | .fstart | .fbyte _ | .verify | .decrd | .decid => false

/-- The bytes a program feeds to the `compute` stream. -/
def cbytes : List Instr → List Byte := List.filterMap fun
  | .cbyte b => some b
  | _ => none

/-- The bytes a program feeds to the frame accumulation. -/
def fbytes : List Instr → List Byte := List.filterMap fun
  | .fbyte b => some b
  | _ => none

/-- The engine's steps of one transaction whose command write succeeds, with the ticks as early as possible. -/
def transactionScript (wakeAnswer : WriteAnswer) (readAnswer : ReadAnswer) : List Event :=
  [.wake wakeAnswer, .command .ok] ++ List.replicate Config.settleTicks.toNat .tick ++ [.settleExit, .read readAnswer]

/-! ## Safe runs and the host's duties -/

/-- A safe state: no sticky fault (R141: a fault reports a bug in the host's use of the block). -/
def State.safe (s : State) : Bool := !s.fault

/-- R172: the precondition (`FV`, `V`, `CNT`) without which an operation raises INVARIANT (R140). -/
def faultFree (i : Instr) (s : State) : Bool :=
  match i with
  | .compute n => n.toNat ≤ s.cnt.val
  | .verify => s.fv
  | .decrd | .decid => s.fv && s.v
  | .cinit | .cbyte _ | .fstart | .fbyte _ | .transact _ _ _ | .rdsens _ _ _ | .rduid _ _ _ => true

/-- R179: the register count is 4 with every sequencer operation. -/
def countIsFour : Instr → Bool
  | .transact _ _ n | .rdsens _ _ n | .rduid _ _ n => n == 4
  | .cinit | .cbyte _ | .compute _ | .fstart | .fbyte _ | .verify | .decrd | .decid => true

/-- R172: the host may properly present `w` now: a legal word, its precondition met, its register count 4. -/
def hostProper (w : Word32) (s : State) : Bool :=
  match decode w with
  | .ok i => faultFree i s && countIsFour i
  | .error _ => false

/-- R173: `(SETTLE_TICKS - 1) * TICK_PERIOD >= SETTLE_TIME`, in microseconds. -/
def settleMargin (ticks period : Nat) : Bool := Config.settleTime ≤ (ticks - 1) * period

/-- R173, the platform's duty. No step of the block depends on it. -/
def platformTimingOk : Bool := settleMargin Config.settleTicks.toNat Config.tickPeriod

/-! ## How an accepted operation leaves the report registers -/

/-- The operation with this opcode has been accepted and has ended normally (R111, R122): the report registers. -/
def endedWell (opc : Byte) (s : State) : State :=
  { s with opr := opc, done := true, err := false, cause := .none, eph := .idle, edesc := 0 }

/-- The operation with this opcode has been accepted and has raised a sticky fault (R111, R143). -/
def endedInFault (opc : Byte) (cause : Cause) (s : State) : State :=
  { s with
    opr := opc, done := true, err := true, fault := true, cause := cause, eph := .idle, edesc := 0, ph := .idle }

/-- The three operand fields with this opcode stand for an operation exactly when `zero` holds of them: then the word on
a ready port is that operation, else it raises ILLEGAL_OP (R61, R63). -/
def WordMeans (opc : Byte) (zero : Byte → Byte → Byte → Prop) (op : Byte → Byte → Byte → Instr) : Prop :=
  ∀ (s : State) (a b c : Byte), s.ready = true →
    (zero a b c → presentWord (pack ⟨opc, a, b, c⟩) s = exec (op a b c) s) ∧
    (¬ zero a b c → presentWord (pack ⟨opc, a, b, c⟩) s = .next (endedInFault opc .illegalOp s))

/-- Whether a wake write failed (R113, `WF`). -/
def WriteAnswer.failed : WriteAnswer → Bool
  | .ok => false
  | .err _ => true

/-- The description of a failed wake write, 0 when it did not fail (R23, `WDESC`). -/
def WriteAnswer.desc : WriteAnswer → Byte
  | .ok => 0
  | .err d => d

/-- A sequencer operation with operands `c`, `r`, `n` has been accepted (R112, R119, R120) and a bus call of it has
failed (R114, R116, R142): every register but `TMR`. -/
def failedTransaction (i : Instr) (c r n : Byte) (wakeAnswer : WriteAnswer) (cause : Cause) (eph : Phase) (edesc : Byte)
    (s : State) : State :=
  { s with
    opr := opcode i, cmd := c, raddr := r, rcnt := n, wf := wakeAnswer.failed, wdesc := wakeAnswer.desc, cnt := 0,
    facc := Config.crcInit, fv := false, v := false, rv := s.rv && opcode i != 0x11, uv := s.uv && opcode i != 0x12,
    ph := .idle, done := true, err := true, cause := cause, eph := eph, edesc := edesc }

/-! ## Invariants -/

/-- The invariants of R30, by the spec's names. -/
structure State.SpecInv (s : State) : Prop where
  i1 : s.cnt.val ≤ 8
  i2 : s.fv = true → s.cnt.val = 8
  i3 : s.v = true → s.fv = true
  i4 : s.v = true →
    crc16 [s.fb[0], s.fb[1], s.fb[2], s.fb[3], s.fb[4], s.fb[5]] = le16 s.fb[6] s.fb[7] ∧ s.facc = le16 s.fb[6] s.fb[7]
  i4a : s.cnt.val < 8 → s.facc = crc16 (s.fb.toList.take (min s.cnt.val 6))
  i5 : s.ph ≠ .idle → s.opr = 0x10 ∨ s.opr = 0x11 ∨ s.opr = 0x12
  i6 : s.ph = .check ∨ s.ph = .decode → (s.opr = 0x11 ∨ s.opr = 0x12) ∧ s.fv = true
  i7 : s.ph = .decode → s.v = true
  i8 : s.fault = true →
    s.ph = .idle ∧ s.err = true ∧ s.done = true ∧ (s.cause = .invariant ∨ s.cause = .illegalOp)
  i9 : (s.err = true → s.done = true ∧ s.cause ≠ .none) ∧
    (s.err = false → s.cause = .none ∧ s.eph = .idle ∧ s.edesc = 0)
  i10 : s.wf = false → s.wdesc = 0
  i11 : s.tmr ≠ 0 → s.ph = .settle

/-- The invariants of R30 and the two facts that make them inductive (log entry 16): while the bus part of a sequencer
operation runs the frame buffer counts as empty, and while any phase runs no report stands. -/
structure State.Inv (s : State) : Prop extends s.SpecInv where
  busEmpty : s.ph = .wake ∨ s.ph = .cmdw ∨ s.ph = .settle ∨ s.ph = .read →
    s.fv = false ∧ s.v = false ∧ s.cnt.val = 0
  busyOpen : s.ph ≠ .idle → s.done = false ∧ s.err = false

/-- The reset values of R27, for the registers R27 specifies. -/
structure HasResetValues (s : State) : Prop where
  ph : s.ph = .idle
  opr : s.opr = 0x00
  acc : s.acc = 0xFFFF
  facc : s.facc = 0xFFFF
  cnt : s.cnt = 0
  tmr : s.tmr = 0
  flags : s.done = false ∧ s.err = false ∧ s.fault = false ∧ s.wf = false ∧ s.fv = false ∧ s.v = false ∧
    s.rv = false ∧ s.uv = false
  report : s.cause = .none ∧ s.eph = .idle ∧ s.edesc = 0 ∧ s.wdesc = 0

/-! ## The phase graph -/

/-- The arrows of R110: from `s`, the step named by the event changes `PH` to the given phase. Reset from `IDLE` and the
accept of a local operation are left out, since they change no phase. -/
inductive PhaseArrow (s : State) : Event → Phase → Prop where
  | accept (w : Word32) (i : Instr) : s.ph = .idle → s.fault = false → decode w = .ok i → isSequencer i = true →
      PhaseArrow s (.present w) .wake
  | wakeDone (a : WriteAnswer) : s.ph = .wake → PhaseArrow s (.wake a) .cmdw
  | commandOk : s.ph = .cmdw → PhaseArrow s (.command .ok) .settle
  | commandErr (d : Byte) : s.ph = .cmdw → PhaseArrow s (.command (.err d)) .idle
  | settled : s.ph = .settle → s.tmr = 0 → PhaseArrow s .settleExit .read
  | readEnds (bytes : List Byte) : s.ph = .read → bytes.length = 8 → s.opr = 0x10 →
      PhaseArrow s (.read (.ok bytes)) .idle
  | readGoesOn (bytes : List Byte) : s.ph = .read → bytes.length = 8 → s.opr = 0x11 ∨ s.opr = 0x12 →
      PhaseArrow s (.read (.ok bytes)) .check
  | readLength (bytes : List Byte) : s.ph = .read → bytes.length ≠ 8 → PhaseArrow s (.read (.ok bytes)) .idle
  | readErr (d : Byte) : s.ph = .read → PhaseArrow s (.read (.err d)) .idle
  | checkEqual : s.ph = .check → crc16 (s.fb.toList.take 6) = le16 s.fb[6] s.fb[7] → PhaseArrow s .check .decode
  | checkDiffers : s.ph = .check → crc16 (s.fb.toList.take 6) ≠ le16 s.fb[6] s.fb[7] → PhaseArrow s .check .idle
  | decoded : s.ph = .decode → PhaseArrow s .decode .idle
  | reset : s.ph ≠ .idle → PhaseArrow s .reset .idle

/-- A bound on the engine and tick steps the operation in progress still needs; 0 when none is. -/
def State.remaining (s : State) : Nat :=
  match s.ph with
  | .idle => 0
  | .decode => 1
  | .check => 2
  | .read => 3
  | .settle => 4 + s.tmr.toNat
  | .cmdw => 5 + Config.settleTicks.toNat
  | .wake => 6 + Config.settleTicks.toNat

/-! ## Behaviours and fairness -/

/-- `s` when the outside world is about to make the choice `e`. -/
def State.facing (e : Event) (s : State) : State := { s with script := [e] }

/-- R110, U14: a behaviour of the block is an endless sequence of states, each reached by the step the outside world
chooses; `w k` is the choice at `k`, any choice in any order. -/
def Behaviour (w : Nat → Event) (σ : Nat → State) : Prop :=
  ∀ k, step ((σ k).facing (w k)) = .next (σ (k + 1))

/-- R110: the engine's step of phase `p` is enabled. IDLE has none; the one of SETTLE waits for `TMR = 0`. -/
def State.engineEnabled (p : Phase) (s : State) : Bool :=
  match p with
  | .idle => false
  | .settle => s.ph == .settle && s.tmr == 0
  | .wake | .cmdw | .read | .check | .decode => s.ph == p

/-- R110: the event is the engine's step of phase `p`. -/
def Event.isEngineStep (p : Phase) (e : Event) : Bool :=
  match p, e with
  | .wake, .wake _ | .cmdw, .command _ | .settle, .settleExit | .read, .read _ | .check, .check | .decode, .decode => true
  | _, _ => false

/-- R180, R123, U14: a fair behaviour. An engine step that stays enabled is taken (weak fairness), and ticks keep coming
for as long as `PH = SETTLE` (R172). Not built into the step: a claim that needs it assumes it (log entry 11). -/
structure Fair (w : Nat → Event) (σ : Nat → State) : Prop where
  engine : ∀ (p : Phase) (k : Nat), (∀ j, k ≤ j → (σ j).engineEnabled p = true) →
    ∃ j, k ≤ j ∧ (w j).isEngineStep p = true
  ticks : ∀ k : Nat, (∀ j, k ≤ j → (σ j).ph = .settle) → ∃ j, k ≤ j ∧ w j = .tick

/-! ## Unspecified registers -/

/-- Two states that differ at most in registers whose guard says they hold nothing specified (R27, U4, U5): frame bytes
at index `CNT` and beyond, a reading without `RV`, an identifier without `UV`, operand latches outside an operation. The
record of the host's register reads is left out, since a host may read such a register (R27). -/
structure AgreeWhereSpecified (s t : State) : Prop where
  acc : s.acc = t.acc
  facc : s.facc = t.facc
  cnt : s.cnt = t.cnt
  fb : ∀ (k : Nat) (h : k < 8), k < s.cnt.val → s.fb[k] = t.fb[k]
  hum : s.rv = true → s.hum = t.hum
  tmp : s.rv = true → s.tmp = t.tmp
  uid : s.uv = true → s.uid = t.uid
  opr : s.opr = t.opr
  cmd : s.ph ≠ .idle → s.cmd = t.cmd
  raddr : s.ph ≠ .idle → s.raddr = t.raddr
  rcnt : s.ph ≠ .idle → s.rcnt = t.rcnt
  ph : s.ph = t.ph
  tmr : s.tmr = t.tmr
  done : s.done = t.done
  err : s.err = t.err
  fault : s.fault = t.fault
  wf : s.wf = t.wf
  fv : s.fv = t.fv
  v : s.v = t.v
  rv : s.rv = t.rv
  uv : s.uv = t.uv
  cause : s.cause = t.cause
  eph : s.eph = t.eph
  edesc : s.edesc = t.edesc
  wdesc : s.wdesc = t.wdesc
  script : s.script = t.script
  draws : s.draws = t.draws
  calls : s.calls = t.calls

end Sys2Proof.Machine
end

