-- ==== Sys2Proof/Certificates/Slice0/Obligations.lean ====
section
/-! DEFINITION. The statements for the provers, one definition each, in the order of OBLIGATIONS.json. -/

open Sys2Proof Sys2Proof.Machine

/-! ## Encoding -/

/-- R60 to R62: decoding an encoded operation gives it back, every operand at every value; and an operation has one word,
so the word that decodes to it is its encoding. -/
def Obligations.DecodeAndEncodeAgree : Prop :=
  (∀ i : Instr, decode (encode i) = .ok i) ∧ (∀ (w : Word32) (i : Instr), decode w = .ok i → encode i = w)

/-- R63: which words are illegal, what accepting one does, and that the all-zero and all-ones words are illegal. -/
def Obligations.IllegalWordsRaiseIllegalOp : Prop :=
  (∀ w : Word32, (unpack w).wellFormed = false ↔ ∃ e, decode w = .error e) ∧
  (∀ (w : Word32) (s : State), s.ready = true → (unpack w).wellFormed = false →
    presentWord w s = .next (endedInFault (w.extractLsb' 24 8) .illegalOp s)) ∧
  (unpack 0x00000000).wellFormed = false ∧ (unpack 0xFFFFFFFF).wellFormed = false

/-- R62: a row of the opcode table applies exactly when `(w AND mask) = match`, and the rows are mutually exclusive. -/
def Obligations.TableRowsDecideTheWord : Prop :=
  (∀ (w : Word32) (j : Instr), w &&& rowMask j = rowMatch j ↔ ∃ i, decode w = .ok i ∧ opcode i = opcode j) ∧
  (∀ (w : Word32) (j k : Instr), w &&& rowMask j = rowMatch j → w &&& rowMask k = rowMatch k → opcode j = opcode k)

/-- R69 and `95_test_vectors.md`: words written out in the spec decode to the operations they stand for. -/
def Obligations.WordsOfTheSpecDecode : Prop :=
  decode 0x01000000 = .ok .cinit ∧ decode 0x052C0000 = .ok (.fbyte 0x2C) ∧ decode 0x06000000 = .ok .verify ∧
  decode 0x09000000 = .ok .decid ∧ decode 0x10030004 = .ok (.transact 0x03 0x00 0x04) ∧
  decode 0x12030B04 = .ok (.rduid 0x03 0x0B 0x04) ∧ decode 0x07000000 = .error .unknownOpcode ∧
  decode 0x01000100 = .error .nonzeroB

/-! ## The data functions -/

/-- R44, R45, R103: the payload is big-endian, the checksum little-endian, and every value is unsigned. -/
def Obligations.FrameFieldsAreUnsignedInTheirByteOrders : Prop :=
  ∀ f : Frame,
    (receivedCrc f).toNat = f[6].toNat + 256 * f[7].toNat ∧
    (frameReading f).humidity.toNat = 256 * f[2].toNat + f[3].toNat ∧
    (frameReading f).temperature.toNat = 256 * f[4].toNat + f[5].toNat ∧
    (frameUid f).toNat = 16777216 * f[2].toNat + 65536 * f[3].toNat + 256 * f[4].toNat + f[5].toNat

/-- R84 items 2, 3 and 5: streaming, linearity, and that `crc_byte` is a bijection of the accumulator for each byte and
injective in the byte. -/
def Obligations.CrcByteIsLinearAndBijective : Prop :=
  (∀ (bytes : List Byte) (b : Byte), crc16 (bytes ++ [b]) = crcByte (crc16 bytes) b) ∧
  (∀ x y : Word16, crcByte (x ^^^ y) 0 = crcByte x 0 ^^^ crcByte y 0) ∧
  (∀ (acc : Word16) (b : Byte), crcByte acc b = crcByte (acc ^^^ b.setWidth 16) 0) ∧
  (∀ b : Byte, Function.Bijective fun acc => crcByte acc b) ∧ (∀ acc : Word16, Function.Injective (crcByte acc))

/-- R84 item 4: the checksum in little-endian order sums to zero, so a frame is valid exactly when its own sum is 0. -/
def Obligations.ZeroResidue : Prop :=
  (∀ bytes : List Byte,
    crc16 (bytes ++ [(crc16 bytes).extractLsb' 0 8, (crc16 bytes).extractLsb' 8 8]) = 0) ∧
  (∀ f : Frame, frameValid f = true ↔ crc16 f.toList = 0)

/-- R84 item 5: any change confined to one byte makes a valid frame invalid. -/
def Obligations.SingleByteChangeIsDetected : Prop :=
  ∀ (f : Frame) (k : Nat) (h : k < 8) (b : Byte), frameValid f = true → b ≠ f[k] → frameValid (f.set k b h) = false

/-! ## The local operations -/

/-- R85: CINIT. -/
def Obligations.CinitStartsAChecksum : Prop :=
  (∀ s : State, s.ready = true → exec .cinit s = .next { endedWell 0x01 s with acc := 0xFFFF }) ∧
  WordMeans 0x01 (fun a b c => a = 0 ∧ b = 0 ∧ c = 0) (fun _ _ _ => .cinit)

/-- R86: CBYTE. -/
def Obligations.CbyteAbsorbsAByte : Prop :=
  (∀ (s : State) (b : Byte), s.ready = true →
    exec (.cbyte b) s = .next { endedWell 0x02 s with acc := crcByte s.acc b }) ∧
  WordMeans 0x02 (fun _ b c => b = 0 ∧ c = 0) (fun a _ _ => .cbyte a)

/-- R87: COMPUTE. -/
def Obligations.ComputeSumsTheFirstBytes : Prop :=
  (∀ (s : State) (n : Byte), s.ready = true → n.toNat ≤ s.cnt.val →
    exec (.compute n) s = .next { endedWell 0x03 s with acc := crc16 (s.fb.toList.take n.toNat) }) ∧
  (∀ (s : State) (n : Byte), s.ready = true → s.cnt.val < n.toNat →
    exec (.compute n) s = .next (endedInFault 0x03 .invariant s)) ∧
  WordMeans 0x03 (fun _ b c => b = 0 ∧ c = 0) (fun a _ _ => .compute a)

/-- R88: FSTART. -/
def Obligations.FstartEmptiesTheFrame : Prop :=
  (∀ s : State, s.ready = true →
    exec .fstart s = .next { endedWell 0x04 s with cnt := 0, facc := 0xFFFF, fv := false, v := false }) ∧
  WordMeans 0x04 (fun a b c => a = 0 ∧ b = 0 ∧ c = 0) (fun _ _ _ => .fstart)

/-- R89, one operation: bytes 0 to 5 are stored and summed, byte 6 is stored, byte 7 completes the frame and is compared,
a ninth byte is the recoverable error LENGTH. -/
def Obligations.FbyteAccumulatesAndCompares : Prop :=
  (∀ (s : State) (b : Byte) (k : Nat) (h : k < 8), s.ready = true → s.cnt.val = k → k < 6 →
    exec (.fbyte b) s = .next { endedWell 0x05 s with
      fb := s.fb.set k b h, facc := crcByte s.facc b, cnt := Fin.ofNat 9 (k + 1) }) ∧
  (∀ (s : State) (b : Byte), s.ready = true → s.cnt.val = 6 →
    exec (.fbyte b) s = .next { endedWell 0x05 s with fb := s.fb.set 6 b, cnt := 7 }) ∧
  (∀ (s : State) (b : Byte), s.ready = true → s.cnt.val = 7 →
    exec (.fbyte b) s = .next { endedWell 0x05 s with
      fb := s.fb.set 7 b, cnt := 8, fv := true, v := s.facc == le16 s.fb[6] b }) ∧
  (∀ (s : State) (b : Byte), s.ready = true → s.cnt.val = 8 →
    exec (.fbyte b) s = .next { endedWell 0x05 s with
      fv := false, v := false, err := true, cause := .length }) ∧
  WordMeans 0x05 (fun _ b c => b = 0 ∧ c = 0) (fun a _ _ => .fbyte a)

/-- R90: VERIFY, and that it is idempotent. -/
def Obligations.VerifyJudgesTheFrame : Prop :=
  (∀ s : State, s.ready = true → s.fv = true →
    exec .verify s = .next { endedWell 0x06 s with
      facc := crc16 [s.fb[0], s.fb[1], s.fb[2], s.fb[3], s.fb[4], s.fb[5]],
      v := crc16 [s.fb[0], s.fb[1], s.fb[2], s.fb[3], s.fb[4], s.fb[5]] == le16 s.fb[6] s.fb[7] }) ∧
  (∀ s : State, s.ready = true → s.fv = false → exec .verify s = .next (endedInFault 0x06 .invariant s)) ∧
  (∀ s t : State, exec .verify s = .next t → exec .verify t = .next t) ∧
  WordMeans 0x06 (fun a b c => a = 0 ∧ b = 0 ∧ c = 0) (fun _ _ _ => .verify)

/-- R105: DECRD. -/
def Obligations.DecrdDecodesAReading : Prop :=
  (∀ s : State, s.ready = true → s.fv = true → s.v = true →
    exec .decrd s = .next { endedWell 0x08 s with
      hum := be16 s.fb[2] s.fb[3], tmp := be16 s.fb[4] s.fb[5], rv := true }) ∧
  (∀ s : State, s.ready = true → s.fv = false ∨ s.v = false →
    exec .decrd s = .next (endedInFault 0x08 .invariant s)) ∧
  WordMeans 0x08 (fun a b c => a = 0 ∧ b = 0 ∧ c = 0) (fun _ _ _ => .decrd)

/-- R106: DECID. -/
def Obligations.DecidDecodesAnIdentifier : Prop :=
  (∀ s : State, s.ready = true → s.fv = true → s.v = true →
    exec .decid s = .next { endedWell 0x09 s with
      uid := be32 s.fb[2] s.fb[3] s.fb[4] s.fb[5], uv := true }) ∧
  (∀ s : State, s.ready = true → s.fv = false ∨ s.v = false →
    exec .decid s = .next (endedInFault 0x09 .invariant s)) ∧
  WordMeans 0x09 (fun a b c => a = 0 ∧ b = 0 ∧ c = 0) (fun _ _ _ => .decid)

/-! ## Accepting a sequencer operation -/

/-- R112: the accept step of TRANSACT. -/
def Obligations.TransactIsAccepted : Prop :=
  (∀ (s : State) (c r n : Byte), s.ready = true →
    exec (.transact c r n) s = .next { s with
      opr := 0x10, done := false, err := false, cause := .none, eph := .idle, edesc := 0, cmd := c, raddr := r,
      rcnt := n, wf := false, wdesc := 0, cnt := 0, facc := 0xFFFF, fv := false, v := false, ph := .wake }) ∧
  (∀ (s : State) (c r n : Byte), presentWord (pack ⟨0x10, c, r, n⟩) s = exec (.transact c r n) s)

/-- R119: the accept step of RDSENS, which also invalidates the old reading. -/
def Obligations.RdsensIsAccepted : Prop :=
  (∀ (s : State) (c r n : Byte), s.ready = true →
    exec (.rdsens c r n) s = .next { s with
      opr := 0x11, done := false, err := false, cause := .none, eph := .idle, edesc := 0, cmd := c, raddr := r,
      rcnt := n, wf := false, wdesc := 0, cnt := 0, facc := 0xFFFF, fv := false, v := false, rv := false,
      ph := .wake }) ∧
  (∀ (s : State) (c r n : Byte), presentWord (pack ⟨0x11, c, r, n⟩) s = exec (.rdsens c r n) s)

/-- R120: the accept step of RDUID, which also invalidates the old identifier. -/
def Obligations.RduidIsAccepted : Prop :=
  (∀ (s : State) (c r n : Byte), s.ready = true →
    exec (.rduid c r n) s = .next { s with
      opr := 0x12, done := false, err := false, cause := .none, eph := .idle, edesc := 0, cmd := c, raddr := r,
      rcnt := n, wf := false, wdesc := 0, cnt := 0, facc := 0xFFFF, fv := false, v := false, uv := false,
      ph := .wake }) ∧
  (∀ (s : State) (c r n : Byte), presentWord (pack ⟨0x12, c, r, n⟩) s = exec (.rduid c r n) s)

/-! ## Frames -/

/-- R85 to R87, R11, R176: what CINIT, CBYTE and COMPUTE leave unchanged, in every state. -/
def Obligations.ComputeOperationsFrame : Prop :=
  ∀ (i : Instr) (s t : State), (i = .cinit ∨ (∃ b, i = .cbyte b) ∨ ∃ n, i = .compute n) → exec i s = .next t →
    t.facc = s.facc ∧ (∀ (k : Nat) (h : k < 8), t.fb[k] = s.fb[k]) ∧ t.cnt = s.cnt ∧ t.hum = s.hum ∧
    t.tmp = s.tmp ∧ t.uid = s.uid ∧ t.cmd = s.cmd ∧ t.raddr = s.raddr ∧ t.rcnt = s.rcnt ∧ t.ph = s.ph ∧
    t.tmr = s.tmr ∧ t.wf = s.wf ∧ t.fv = s.fv ∧ t.v = s.v ∧ t.rv = s.rv ∧ t.uv = s.uv ∧ t.wdesc = s.wdesc ∧
    (t.fault = s.fault ∨ ∃ n, i = .compute n) ∧
    t.script = s.script ∧ t.draws = s.draws ∧ t.calls = s.calls ∧ t.reads = s.reads

/-- R88 to R90, R11, R176: what FSTART, FBYTE and VERIFY leave unchanged, in every state. The one byte of the frame
buffer stored to is FBYTE's, at index `CNT`. -/
def Obligations.FrameOperationsFrame : Prop :=
  ∀ (i : Instr) (s t : State), (i = .fstart ∨ (∃ b, i = .fbyte b) ∨ i = .verify) → exec i s = .next t →
    t.acc = s.acc ∧ (∀ (k : Nat) (h : k < 8), ¬((∃ b, i = .fbyte b) ∧ k = s.cnt.val) → t.fb[k] = s.fb[k]) ∧
    t.hum = s.hum ∧ t.tmp = s.tmp ∧ t.uid = s.uid ∧ t.cmd = s.cmd ∧ t.raddr = s.raddr ∧ t.rcnt = s.rcnt ∧
    t.ph = s.ph ∧ t.tmr = s.tmr ∧ t.wf = s.wf ∧ t.rv = s.rv ∧ t.uv = s.uv ∧ t.wdesc = s.wdesc ∧
    (i = .verify → t.cnt = s.cnt ∧ t.fv = s.fv) ∧ (i ≠ .verify → t.fault = s.fault) ∧
    t.script = s.script ∧ t.draws = s.draws ∧ t.calls = s.calls ∧ t.reads = s.reads

/-- R105, R106: what DECRD and DECID leave unchanged, in every state. -/
def Obligations.DecodeOperationsFrame : Prop :=
  ∀ (i : Instr) (s t : State), (i = .decrd ∨ i = .decid) → exec i s = .next t →
    t.acc = s.acc ∧ t.facc = s.facc ∧ (∀ (k : Nat) (h : k < 8), t.fb[k] = s.fb[k]) ∧ t.cnt = s.cnt ∧
    (i = .decid → t.hum = s.hum ∧ t.tmp = s.tmp ∧ t.rv = s.rv) ∧ (i = .decrd → t.uid = s.uid ∧ t.uv = s.uv) ∧
    t.cmd = s.cmd ∧ t.raddr = s.raddr ∧ t.rcnt = s.rcnt ∧ t.ph = s.ph ∧ t.tmr = s.tmr ∧ t.wf = s.wf ∧
    t.fv = s.fv ∧ t.v = s.v ∧ t.wdesc = s.wdesc ∧
    t.script = s.script ∧ t.draws = s.draws ∧ t.calls = s.calls ∧ t.reads = s.reads

/-- R112, R119, R120: what accepting a sequencer operation leaves unchanged, in every state. -/
def Obligations.SequencerAcceptFrame : Prop :=
  ∀ (i : Instr) (s t : State), isSequencer i = true → exec i s = .next t →
    t.acc = s.acc ∧ (∀ (k : Nat) (h : k < 8), t.fb[k] = s.fb[k]) ∧ t.hum = s.hum ∧ t.tmp = s.tmp ∧ t.uid = s.uid ∧
    t.tmr = s.tmr ∧ t.fault = s.fault ∧ (t.rv = s.rv ∨ opcode i = 0x11) ∧ (t.uv = s.uv ∨ opcode i = 0x12) ∧
    t.script = s.script ∧ t.draws = s.draws ∧ t.calls = s.calls ∧ t.reads = s.reads

/-! ## The command port and the step -/

/-- R60: the port is ready exactly when `PH = IDLE` and `FAULT = 0`, and a word presented while it is not ready has no
effect: the step only takes the host's choice away. -/
def Obligations.PortNotReadyTakesNothing : Prop :=
  (∀ s : State, s.ready = true ↔ s.ph = .idle ∧ s.fault = false) ∧
  (∀ (s : State) (w : Word32) (rest : List Event), s.ready = false → s.script = .present w :: rest →
    step s = .next { s with script := rest })

/-- R60, R110: the step in which the host presents a word that decodes to an operation is that operation's `exec`, after
the host's choice is taken out of the script; and `withFetchWord` makes the very next step that one. -/
def Obligations.StepRunsTheDecodedOperation : Prop :=
  (∀ (s : State) (w : Word32) (i : Instr) (rest : List Event), s.script = .present w :: rest → decode w = .ok i →
    step s = exec i { s with script := rest }) ∧
  (∀ (s : State) (w : Word32) (i : Instr), decode w = .ok i →
    step (s.withFetchWord 32 w.toNat) = exec i { s with ph := .idle, fault := false })

/-- R110: an event whose step is not enabled changes nothing of the block: the step only takes the choice away. That it
is taken as a step at all is the model's choice (log entry 7). -/
def Obligations.DisabledStepsChangeNothing : Prop :=
  ∀ (s : State) (e : Event) (rest : List Event), s.script = e :: rest →
    (match e with
      | .present _ => s.ready = false
      | .wake _ => s.ph ≠ .wake
      | .command _ => s.ph ≠ .cmdw
      | .settleExit => s.ph ≠ .settle ∨ s.tmr ≠ 0
      | .read _ => s.ph ≠ .read
      | .check => s.ph ≠ .check
      | .decode => s.ph ≠ .decode
      | .tick => s.ph ≠ .settle ∨ s.tmr = 0
      | .readReg _ => False
      | .reset => False) →
    step s = .next { s with script := rest }

/-! ## The phases -/

/-- R113: the wake step. -/
def Obligations.WakeStepGoesOn : Prop :=
  ∀ (s : State) (rest : List Event), s.ph = .wake →
    (s.script = .wake .ok :: rest →
      step s = .next { s with script := rest, ph := .cmdw, calls := s.calls ++ [.write Config.devAddr []] }) ∧
    (∀ d : Byte, s.script = .wake (.err d) :: rest →
      step s = .next { s with
        script := rest, ph := .cmdw, wf := true, wdesc := d, calls := s.calls ++ [.write Config.devAddr []] })

/-- R114: the command step. -/
def Obligations.CommandStepStartsTheSettleDelay : Prop :=
  ∀ (s : State) (rest : List Event), s.ph = .cmdw →
    (s.script = .command .ok :: rest →
      step s = .next { s with
        script := rest, ph := .settle, tmr := Config.settleTicks,
        calls := s.calls ++ [.write Config.devAddr [s.cmd, s.raddr, s.rcnt]] }) ∧
    (∀ d : Byte, s.script = .command (.err d) :: rest →
      step s = .next { s with
        script := rest, ph := .idle, done := true, err := true, cause := .transport, eph := .cmdw, edesc := d,
        calls := s.calls ++ [.write Config.devAddr [s.cmd, s.raddr, s.rcnt]] })

/-- R115: settle-exit is enabled only at `TMR = 0`; and whatever step but reset or a register read is taken in SETTLE,
nothing changes but `TMR`, or `PH` once `TMR = 0`: no bus call, no operation accepted. The choice stands in the script.
That an event whose step is not enabled (settle-exit at `TMR > 0`, a word presented, a step of another phase) is taken as
a step without effect is the model's choice (log entry 7). -/
def Obligations.SettlePhaseOnlyWaits : Prop :=
  (∀ (s : State) (rest : List Event), s.ph = .settle → s.script = .settleExit :: rest →
    step s = .next { s with script := rest, ph := if s.tmr = 0 then .read else .settle }) ∧
  (∀ (s : State) (e : Event) (rest : List Event), s.ph = .settle → s.script = e :: rest → e ≠ .reset →
    (∀ n, e ≠ .readReg n) →
    ∃ t, step s = .next t ∧ t = { s with script := rest, tmr := t.tmr, ph := t.ph } ∧
      (t.ph = .settle ∨ (t.ph = .read ∧ s.tmr = 0 ∧ e = .settleExit)) ∧
      (t.tmr = s.tmr ∨ (e = .tick ∧ t.tmr = s.tmr - 1 ∧ 0 < s.tmr)))

/-- R116: the read step. A frame is stored whole or not at all. -/
def Obligations.ReadStepStoresAFrameOrRaises : Prop :=
  ∀ (s : State) (rest : List Event), s.ph = .read →
    (∀ d : Byte, s.script = .read (.err d) :: rest →
      step s = .next { s with
        script := rest, ph := .idle, done := true, err := true, cause := .transport, eph := .read, edesc := d,
        calls := s.calls ++ [.read Config.devAddr 8] }) ∧
    (∀ bytes : List Byte, bytes.length ≠ 8 → s.script = .read (.ok bytes) :: rest →
      step s = .next { s with
        script := rest, ph := .idle, done := true, err := true, cause := .length, eph := .read, edesc := 0,
        calls := s.calls ++ [.read Config.devAddr 8] }) ∧
    (∀ f : Frame, s.opr = 0x10 → s.script = .read (.ok f.toList) :: rest →
      step s = .next { s with
        script := rest, ph := .idle, done := true, fb := f, cnt := 8, fv := true,
        calls := s.calls ++ [.read Config.devAddr 8] }) ∧
    (∀ f : Frame, s.opr ≠ 0x10 → s.script = .read (.ok f.toList) :: rest →
      step s = .next { s with
        script := rest, ph := .check, fb := f, cnt := 8, fv := true, calls := s.calls ++ [.read Config.devAddr 8] })

/-- R117: the check step. A mismatch ends the operation with cause CHECKSUM and decodes nothing. -/
def Obligations.CheckStepValidatesTheFrame : Prop :=
  ∀ (s : State) (rest : List Event) (c : Word16), s.ph = .check → s.script = .check :: rest →
    c = crc16 [s.fb[0], s.fb[1], s.fb[2], s.fb[3], s.fb[4], s.fb[5]] →
    (c = le16 s.fb[6] s.fb[7] →
      step s = .next { s with script := rest, facc := c, v := true, ph := .decode }) ∧
    (c ≠ le16 s.fb[6] s.fb[7] →
      step s = .next { s with
        script := rest, facc := c, v := false, ph := .idle, done := true, err := true, cause := .checksum,
        eph := .check, edesc := 0 })

/-- R118: the decode step. -/
def Obligations.DecodeStepDeliversTheValue : Prop :=
  ∀ (s : State) (rest : List Event), s.ph = .decode → s.script = .decode :: rest →
    (s.opr = 0x11 →
      step s = .next { s with
        script := rest, ph := .idle, done := true, hum := be16 s.fb[2] s.fb[3], tmp := be16 s.fb[4] s.fb[5],
        rv := true }) ∧
    (s.opr = 0x12 →
      step s = .next { s with
        script := rest, ph := .idle, done := true, uid := be32 s.fb[2] s.fb[3] s.fb[4] s.fb[5], uv := true })

/-- R123: the tick step. -/
def Obligations.TickCountsTheSettleTimerDown : Prop :=
  ∀ (s : State) (rest : List Event), s.script = .tick :: rest →
    (s.ph = .settle ∧ s.tmr ≠ 0 →
      ∃ t, step s = .next t ∧ t = { s with script := rest, tmr := t.tmr } ∧ t.tmr.toNat + 1 = s.tmr.toNat) ∧
    (¬ (s.ph = .settle ∧ s.tmr ≠ 0) → step s = .next { s with script := rest })

/-- R110: `PH` changes only along the arrows of the phase graph, and each arrow is a possible change. -/
def Obligations.PhaseGraphIsComplete : Prop :=
  (∀ s t : State, s.Inv → step s = .next t → t.ph ≠ s.ph → PhaseArrow s (nextEvent s) t.ph) ∧
  (∀ (s : State) (q : Phase), PhaseArrow s (nextEvent s) q → ∃ t, step s = .next t ∧ t.ph = q)

/-- R121, R146: nothing but reset moves a sequencer operation backward, and it can always be moved forward by a step of
the engine or the tick source. -/
def Obligations.OperationsOnlyMoveForward : Prop :=
  (∀ s t : State, s.ph ≠ .idle → nextEvent s ≠ .reset → step s = .next t → t.remaining ≤ s.remaining) ∧
  (∀ (s : State) (rest : List Event), s.ph ≠ .idle → ∃ e, e ≠ .reset ∧ (∀ w, e ≠ .present w) ∧
    ∃ t, step { s with script := e :: rest } = .next t ∧ t.remaining < s.remaining)

/-- R180, R122: from any state in which an operation is in progress, some choice of the outside world's steps, with no
reset and no word presented, ends it within the bound; and in every fair behaviour the operation ends, with `DONE = 1`
unless a reset cut it short. Both rest on log entry 10 (DEDUCED): every bus call returns. Fairness is a premise (log
entry 11). -/
def Obligations.EveryOperationCanEnd : Prop :=
  (∀ s : State, s.ph ≠ .idle → ∃ sc : List Event, sc.length ≤ s.remaining ∧ .reset ∉ sc ∧
    (∀ w, .present w ∉ sc) ∧ ∃ t, run sc.length { s with script := sc } = .next t ∧ t.ph = .idle ∧ t.done = true) ∧
  (∀ (w : Nat → Event) (σ : Nat → State) (k : Nat), Behaviour w σ → Fair w σ → (σ k).ph ≠ .idle →
    ∃ j, k < j ∧ (σ j).ph = .idle ∧ ((σ j).done = true ∨ ∃ m, k ≤ m ∧ m < j ∧ w m = .reset))

/-- R115, R180, R173: no run without reset leaves SETTLE before it has seen as many ticks as the settle timer held; with
the platform's margin that is at least the settle time. -/
def Obligations.SettleDelayIsALowerBound : Prop :=
  ∀ (s t : State) (k : Nat), s.ph = .settle → k ≤ s.script.length → .reset ∉ s.script.take k →
    run k s = .next t → t.ph ≠ .settle →
    s.tmr.toNat ≤ (s.script.take k).count .tick ∧
    (∀ period : Nat, settleMargin s.tmr.toNat period = true →
      Config.settleTime ≤ ((s.script.take k).count .tick - 1) * period)

/-! ## Bus traffic -/

/-- R42, R52: every step makes no bus call, or exactly the one of its phase, with the bytes the spec gives. -/
def Obligations.BusCallsOfAStep : Prop :=
  ∀ s t : State, step s = .next t →
    t.calls = s.calls ∨
    (s.ph = .wake ∧ t.ph = .cmdw ∧ t.calls = s.calls ++ [.write Config.devAddr []]) ∨
    (s.ph = .cmdw ∧ (t.ph = .settle ∨ t.ph = .idle) ∧
      t.calls = s.calls ++ [.write Config.devAddr [s.cmd, s.raddr, s.rcnt]]) ∨
    (s.ph = .read ∧ (t.ph = .check ∨ t.ph = .idle) ∧ t.calls = s.calls ++ [.read Config.devAddr 8])

/-- R42, R49, R121: from the WAKE phase until the operation has ended, the calls made are the first few of the wake
write, the command write and the read, each at most once and in that order. -/
def Obligations.OneTransactionsBusTraffic : Prop :=
  ∀ (s t : State) (k : Nat), s.ph = .wake → run k s = .next t →
    (∀ (j : Nat) (u : State), j < k → run j s = .next u → u.ph ≠ .idle) →
    ∃ n, n ≤ 3 ∧ t.calls = s.calls ++
      ([.write Config.devAddr [], .write Config.devAddr [s.cmd, s.raddr, s.rcnt], .read Config.devAddr 8] :
        List BusCall).take n

/-! ## Whole operations -/

/-- R112 to R116: TRANSACT with a successful command write and a read of eight bytes delivers the raw frame, on the
schedule of `transactionScript`: the ticks as early as possible, no other step between. -/
def Obligations.TransactDeliversTheRawFrame : Prop :=
  ∀ (s : State) (c r n : Byte) (wa : WriteAnswer) (f : Frame) (rest : List Event), s.ready = true →
    s.script = .present (encode (.transact c r n)) :: transactionScript wa (.ok f.toList) ++ rest →
    run (5 + Config.settleTicks.toNat) s = .next { s with
      opr := 0x10, done := true, err := false, cause := .none, eph := .idle, edesc := 0, cmd := c, raddr := r,
      rcnt := n, wf := wa.failed, wdesc := wa.desc, cnt := 8, facc := 0xFFFF, fb := f, fv := true, v := false,
      ph := .idle, tmr := 0, script := rest,
      calls := s.calls ++
        [.write Config.devAddr [], .write Config.devAddr [c, r, n], .read Config.devAddr 8] }

/-- R119: RDSENS on a valid frame ends with the reading decoded; on an invalid frame it ends with cause CHECKSUM and no
reading. A failed wake write changes nothing but `WF` and `WDESC`. The schedule is that of `transactionScript`, with the
check and decode steps at once after it. -/
def Obligations.RdsensReadsASensor : Prop :=
  ∀ (s : State) (c r n : Byte) (wa : WriteAnswer) (f : Frame) (rest : List Event), s.ready = true →
    (frameValid f = true →
      s.script = .present (encode (.rdsens c r n)) :: transactionScript wa (.ok f.toList) ++
        .check :: .decode :: rest →
      run (7 + Config.settleTicks.toNat) s = .next { s with
        opr := 0x11, done := true, err := false, cause := .none, eph := .idle, edesc := 0, cmd := c, raddr := r,
        rcnt := n, wf := wa.failed, wdesc := wa.desc, cnt := 8, facc := receivedCrc f, fb := f, fv := true, v := true,
        hum := be16 f[2] f[3], tmp := be16 f[4] f[5], rv := true, ph := .idle, tmr := 0, script := rest,
        calls := s.calls ++
          [.write Config.devAddr [], .write Config.devAddr [c, r, n], .read Config.devAddr 8] }) ∧
    (frameValid f = false →
      s.script = .present (encode (.rdsens c r n)) :: transactionScript wa (.ok f.toList) ++ .check :: rest →
      run (6 + Config.settleTicks.toNat) s = .next { s with
        opr := 0x11, done := true, err := true, cause := .checksum, eph := .check, edesc := 0, cmd := c, raddr := r,
        rcnt := n, wf := wa.failed, wdesc := wa.desc, cnt := 8, facc := crc16 (f.toList.take 6), fb := f, fv := true,
        v := false, rv := false, ph := .idle, tmr := 0, script := rest,
        calls := s.calls ++
          [.write Config.devAddr [], .write Config.devAddr [c, r, n], .read Config.devAddr 8] })

/-- R120: RDUID, the same unit with the identifier decoder, on the same schedule. -/
def Obligations.RduidReadsAnIdentifier : Prop :=
  ∀ (s : State) (c r n : Byte) (wa : WriteAnswer) (f : Frame) (rest : List Event), s.ready = true →
    (frameValid f = true →
      s.script = .present (encode (.rduid c r n)) :: transactionScript wa (.ok f.toList) ++
        .check :: .decode :: rest →
      run (7 + Config.settleTicks.toNat) s = .next { s with
        opr := 0x12, done := true, err := false, cause := .none, eph := .idle, edesc := 0, cmd := c, raddr := r,
        rcnt := n, wf := wa.failed, wdesc := wa.desc, cnt := 8, facc := receivedCrc f, fb := f, fv := true, v := true,
        uid := be32 f[2] f[3] f[4] f[5], uv := true, ph := .idle, tmr := 0, script := rest,
        calls := s.calls ++
          [.write Config.devAddr [], .write Config.devAddr [c, r, n], .read Config.devAddr 8] }) ∧
    (frameValid f = false →
      s.script = .present (encode (.rduid c r n)) :: transactionScript wa (.ok f.toList) ++ .check :: rest →
      run (6 + Config.settleTicks.toNat) s = .next { s with
        opr := 0x12, done := true, err := true, cause := .checksum, eph := .check, edesc := 0, cmd := c, raddr := r,
        rcnt := n, wf := wa.failed, wdesc := wa.desc, cnt := 8, facc := crc16 (f.toList.take 6), fb := f, fv := true,
        v := false, uv := false, ph := .idle, tmr := 0, script := rest,
        calls := s.calls ++
          [.write Config.devAddr [], .write Config.devAddr [c, r, n], .read Config.devAddr 8] })

/-- R151: the four combinations of a wake write and a command write, from the accepted operation on. -/
def Obligations.WakeFailureIsSurfaced : Prop :=
  ∀ (s : State) (wa : WriteAnswer) (rest : List Event), s.ph = .wake → s.wf = false → s.wdesc = 0 →
    (s.script = .wake wa :: .command .ok :: rest →
      ∃ t, run 2 s = .next t ∧ t.ph = .settle ∧ t.err = s.err ∧ t.cause = s.cause ∧ t.wf = wa.failed ∧
        t.wdesc = wa.desc) ∧
    (∀ d : Byte, s.script = .wake wa :: .command (.err d) :: rest →
      ∃ t, run 2 s = .next t ∧ t.ph = .idle ∧ t.done = true ∧ t.err = true ∧ t.cause = .transport ∧
        t.eph = .cmdw ∧ t.edesc = d ∧ t.wf = wa.failed ∧ t.wdesc = wa.desc)

/-- R114, R116, R119, R120, R142, R151: how each sequencer operation ends when the command write fails, when the read
fails, and when the read answers other than eight bytes: the cause, phase and description are reported, RDSENS leaves
`RV = 0` and RDUID `UV = 0`, nothing else is stored, the calls up to the failed one were made, and the port is ready. -/
def Obligations.TransactionFailuresAreReported : Prop :=
  ∀ (s : State) (i : Instr) (c r n : Byte) (wa : WriteAnswer) (rest : List Event), s.ready = true →
    (i = .transact c r n ∨ i = .rdsens c r n ∨ i = .rduid c r n) →
    (∀ d : Byte, s.script = .present (encode i) :: .wake wa :: .command (.err d) :: rest →
      ∃ t, run 3 s = .next t ∧ t.ready = true ∧
        t = { failedTransaction i c r n wa .transport .cmdw d s with
          script := rest, calls := s.calls ++ [.write Config.devAddr [], .write Config.devAddr [c, r, n]] }) ∧
    (∀ d : Byte, s.script = .present (encode i) :: transactionScript wa (.err d) ++ rest →
      ∃ t, run (5 + Config.settleTicks.toNat) s = .next t ∧ t.ready = true ∧
        t = { failedTransaction i c r n wa .transport .read d s with
          tmr := 0, script := rest,
          calls := s.calls ++
            [.write Config.devAddr [], .write Config.devAddr [c, r, n], .read Config.devAddr 8] }) ∧
    (∀ bytes : List Byte, bytes.length ≠ 8 →
      s.script = .present (encode i) :: transactionScript wa (.ok bytes) ++ rest →
      ∃ t, run (5 + Config.settleTicks.toNat) s = .next t ∧ t.ready = true ∧
        t = { failedTransaction i c r n wa .length .read 0 s with
          tmr := 0, script := rest,
          calls := s.calls ++
            [.write Config.devAddr [], .write Config.devAddr [c, r, n], .read Config.devAddr 8] })

/-- R89: whatever local operations other than FSTART and FBYTE come between, `FSTART; FBYTE f0; ...; FBYTE f7` ends with
the frame stored and judged, unless one of the operations between faults. -/
def Obligations.FrameAccumulationJudgesTheFrame : Prop :=
  ∀ (s t : State) (ops : List Instr) (f : Frame), s.ready = true →
    (∀ i ∈ ops, isSequencer i = false ∧ i ≠ .fstart) → fbytes ops = f.toList →
    runOps (.fstart :: ops) s = .next t → t.fault = false →
    t.facc = crc16 (f.toList.take 6) ∧ t.fb = f ∧ t.cnt = 8 ∧ t.fv = true ∧ t.v = frameValid f

/-- R70, R84 item 2, R176: `CINIT; CBYTE b0; ...` leaves the checksum of its bytes in `ACC`, whatever frame or decode
operations come between, unless one of them faults. -/
def Obligations.ComputeStreamSumsItsBytes : Prop :=
  ∀ (s t : State) (ops : List Instr), s.ready = true →
    (∀ i ∈ ops, isSequencer i = false ∧ i ≠ .cinit ∧ ∀ n, i ≠ .compute n) →
    runOps (.cinit :: ops) s = .next t → t.fault = false → t.acc = crc16 (cbytes ops)

/-! ## Errors, faults and trust -/

/-- R140, R172: a word on a ready port leaves a sticky fault exactly when it is illegal or its operation's precondition
is not met. -/
def Obligations.FaultExactlyOnMisuse : Prop :=
  ∀ (s t : State) (w : Word32), s.ready = true → presentWord w s = .next t →
    (t.fault = true ↔ ∀ i, decode w = .ok i → faultFree i s = false)

/-- R141, R172: no step of a run in which every word presented is proper for the host leaves a safe state. -/
def Obligations.ProperHostsStaySafe : Prop :=
  ∀ s t : State, s.safe = true → (∀ w, nextEvent s = .present w → hostProper w s = true) → step s = .next t →
    t.safe = true

/-- R143, U11: after a sticky fault nothing but reset changes the block. The record of the host's reads is the outside
world's and not constrained here; ReadPortAnswersWithoutEffect says what a register read answers. -/
def Obligations.FaultIsStickyUntilReset : Prop :=
  ∀ s t : State, s.fault = true → s.ph = .idle → nextEvent s ≠ .reset → step s = .next t →
    t = { s with script := t.script, draws := t.draws, reads := t.reads }

/-- R111, R145, R178: an error report stands until the next word is accepted or reset, and `WF`, `WDESC` until the next
sequencer operation is accepted or reset. -/
def Obligations.ErrorReportStandsUntilAccept : Prop :=
  ∀ s t : State, s.ph = .idle → nextEvent s ≠ .reset → step s = .next t →
    (((∀ w, nextEvent s ≠ .present w) ∨ s.fault = true) →
      t.done = s.done ∧ t.err = s.err ∧ t.cause = s.cause ∧ t.eph = s.eph ∧ t.edesc = s.edesc ∧ t.opr = s.opr) ∧
    ((∀ w i, nextEvent s = .present w → decode w = .ok i → isSequencer i = false) →
      t.wf = s.wf ∧ t.wdesc = s.wdesc)

/-- R104, R118, R82: no partial trust. Where a step other than reset leaves a reading or an identifier that it wrote or
newly marked valid, the frame buffer holds a valid frame and the value is the one in its payload. -/
def Obligations.NoValueFromAnInvalidFrame : Prop :=
  ∀ s t : State, s.Inv → nextEvent s ≠ .reset → step s = .next t →
    ((t.hum ≠ s.hum ∨ t.tmp ≠ s.tmp ∨ (t.rv = true ∧ s.rv = false)) →
      frameValid s.fb = true ∧ t.hum = be16 s.fb[2] s.fb[3] ∧ t.tmp = be16 s.fb[4] s.fb[5] ∧ t.rv = true) ∧
    ((t.uid ≠ s.uid ∨ (t.uv = true ∧ s.uv = false)) →
      frameValid s.fb = true ∧ t.uid = be32 s.fb[2] s.fb[3] s.fb[4] s.fb[5] ∧ t.uv = true)

/-! ## Invariants, reset and what the host sees -/

/-- R30, with the two facts of log entry 16: every step keeps the invariants, from every state that has them. -/
def Obligations.StepKeepsTheInvariants : Prop := ∀ s t : State, s.Inv → step s = .next t → t.Inv

/-- R30 at reset. -/
def Obligations.ResetHasTheInvariants : Prop := State.reset.Inv

/-- R30: the invariants hold in every state reached from reset, whatever the outside world chooses. -/
def Obligations.ReachableStatesHaveTheInvariants : Prop :=
  ∀ (k : Nat) (script : List Event) (t : State), run k { State.reset with script := script } = .next t → t.SpecInv

/-- R27, R170, R171: the reset step puts every register R27 specifies at its reset value from any state, makes no bus
call, and leaves the port ready; State.reset has the same values. -/
def Obligations.ResetLeavesTheResetValues : Prop :=
  (∀ s : State, nextEvent s = .reset →
    ∃ t, step s = .next t ∧ t.calls = s.calls ∧ t.ready = true ∧ HasResetValues t) ∧
  State.reset.ready = true ∧ HasResetValues State.reset

/-- R22: the bits of STATUS, and its reset value. R147: the level outputs are the bits they copy. -/
def Obligations.StatusPacksTheFlags : Prop :=
  (∀ s : State,
    s.status.getLsbD 0 = s.busy ∧ s.status.getLsbD 1 = s.done ∧ s.status.getLsbD 2 = s.err ∧
    s.status.getLsbD 3 = s.commError ∧ s.status.getLsbD 4 = s.fault ∧ s.status.getLsbD 5 = s.wf ∧
    s.status.getLsbD 6 = s.fv ∧ s.status.getLsbD 7 = s.v ∧ s.status.getLsbD 8 = s.rv ∧ s.status.getLsbD 9 = s.uv ∧
    ∀ k, 10 ≤ k → s.status.getLsbD k = false) ∧
  (∀ s : State,
    s.outputs.busy = s.status.getLsbD 0 ∧ s.outputs.done = s.status.getLsbD 1 ∧
    s.outputs.err = s.status.getLsbD 2 ∧ s.outputs.fault = s.status.getLsbD 4) ∧
  State.reset.status = 0

/-- R23: the fields of ERRINFO, with the numbers of R140 for the causes and of R19 for the phases, and its reset value. -/
def Obligations.ErrinfoPacksTheReport : Prop :=
  (∀ s : State,
    (s.errinfo.extractLsb' 0 4 = match s.cause with
      | .none => 0 | .transport => 1 | .length => 2 | .checksum => 3 | .invariant => 4 | .illegalOp => 5) ∧
    (s.errinfo.extractLsb' 4 3 = match s.eph with
      | .idle => 0 | .wake => 1 | .cmdw => 2 | .settle => 3 | .read => 4 | .check => 5 | .decode => 6) ∧
    s.errinfo.getLsbD 7 = false ∧ s.errinfo.extractLsb' 8 8 = s.edesc ∧ s.errinfo.extractLsb' 16 8 = s.wdesc ∧
    s.errinfo.extractLsb' 24 8 = 0) ∧
  State.reset.errinfo = 0

/-- R21: `BUSY` and `CE` on the state; and, of R141, that under the invariants (log entry 16) a sticky fault is no
CommunicationError. -/
def Obligations.ErrorClassesAreTold : Prop :=
  ∀ s : State,
    (s.busy = true ↔ s.ph ≠ .idle) ∧
    (s.commError = true ↔ s.err = true ∧ (s.cause = .transport ∨ s.cause = .length ∨ s.cause = .checksum)) ∧
    (s.Inv → s.fault = true → s.commError = false)

/-- R24, R25: the read port gives the value of the register or view with that number, zero-extended, in every state, and a
register read changes nothing of the block. -/
def Obligations.ReadPortAnswersWithoutEffect : Prop :=
  (∀ s : State,
    s.readPort 0x00 = s.status ∧ s.readPort 0x01 = s.errinfo ∧ (s.readPort 0x02).toNat = s.acc.toNat ∧
    (s.readPort 0x03).toNat = (le16 s.fb[6] s.fb[7]).toNat ∧ (s.readPort 0x04).toNat = s.cnt.val ∧
    (s.readPort 0x05).toNat = s.hum.toNat ∧ (s.readPort 0x06).toNat = s.tmp.toNat ∧ s.readPort 0x07 = s.uid ∧
    (s.readPort 0x08).toNat = s.hum.toNat / 10 ∧ (s.readPort 0x09).toNat = s.hum.toNat % 10 ∧
    (s.readPort 0x0A).toNat = s.tmp.toNat / 10 ∧ (s.readPort 0x0B).toNat = s.tmp.toNat % 10 ∧
    s.hum.toNat / 10 ≤ 6553 ∧ s.hum.toNat % 10 ≤ 9 ∧ s.tmp.toNat / 10 ≤ 6553 ∧ s.tmp.toNat % 10 ≤ 9 ∧
    s.readPort 0x0C = s.opr ++ s.cmd ++ s.raddr ++ s.rcnt ∧ (s.readPort 0x0D).toNat = s.tmr.toNat ∧
    ((s.readPort 0x0E).toNat = match s.ph with
      | .idle => 0 | .wake => 1 | .cmdw => 2 | .settle => 3 | .read => 4 | .check => 5 | .decode => 6) ∧
    (s.readPort 0x0F).toNat = s.facc.toNat ∧
    (∀ (k : Nat) (h : k < 8), (s.readPort (BitVec.ofNat 5 (0x10 + k))).toNat = s.fb[k].toNat) ∧
    (∀ n : BitVec 5, 0x18 ≤ n.toNat → s.readPort n = 0)) ∧
  (∀ (s : State) (n : BitVec 5) (rest : List Event), s.script = .readReg n :: rest →
    step s = .next { s with script := rest, reads := s.reads ++ [(n, s.readPort n)] })

/-- R27: no rule reads an unspecified register without its guard. Two states that agree wherever a guard says a register
holds something agree so after every step. -/
def Obligations.UnspecifiedRegistersDoNotMatter : Prop :=
  ∀ s s' t : State, s.Inv → AgreeWhereSpecified s s' → step s = .next t →
    ∃ t', step s' = .next t' ∧ AgreeWhereSpecified t t'
end

