-- ==== Sys2Proof/Laws/State.lean ====
section
/-! SUPPORT. The small lemmas of the state updates: for each named update, one lemma per field, so that no later proof
unfolds a record update. -/

namespace Sys2Proof.Machine

variable (s : State)

/-! ### acceptCommon -/

@[simp] theorem acceptCommon_acc (opc : Byte) : (acceptCommon opc s).acc = s.acc := (rfl)
@[simp] theorem acceptCommon_facc (opc : Byte) : (acceptCommon opc s).facc = s.facc := (rfl)
@[simp] theorem acceptCommon_fb (opc : Byte) : (acceptCommon opc s).fb = s.fb := (rfl)
@[simp] theorem acceptCommon_cnt (opc : Byte) : (acceptCommon opc s).cnt = s.cnt := (rfl)
@[simp] theorem acceptCommon_hum (opc : Byte) : (acceptCommon opc s).hum = s.hum := (rfl)
@[simp] theorem acceptCommon_tmp (opc : Byte) : (acceptCommon opc s).tmp = s.tmp := (rfl)
@[simp] theorem acceptCommon_uid (opc : Byte) : (acceptCommon opc s).uid = s.uid := (rfl)
@[simp] theorem acceptCommon_opr (opc : Byte) : (acceptCommon opc s).opr = opc := (rfl)
@[simp] theorem acceptCommon_cmd (opc : Byte) : (acceptCommon opc s).cmd = s.cmd := (rfl)
@[simp] theorem acceptCommon_raddr (opc : Byte) : (acceptCommon opc s).raddr = s.raddr := (rfl)
@[simp] theorem acceptCommon_rcnt (opc : Byte) : (acceptCommon opc s).rcnt = s.rcnt := (rfl)
@[simp] theorem acceptCommon_ph (opc : Byte) : (acceptCommon opc s).ph = s.ph := (rfl)
@[simp] theorem acceptCommon_tmr (opc : Byte) : (acceptCommon opc s).tmr = s.tmr := (rfl)
@[simp] theorem acceptCommon_done (opc : Byte) : (acceptCommon opc s).done = false := (rfl)
@[simp] theorem acceptCommon_err (opc : Byte) : (acceptCommon opc s).err = false := (rfl)
@[simp] theorem acceptCommon_fault (opc : Byte) : (acceptCommon opc s).fault = s.fault := (rfl)
@[simp] theorem acceptCommon_wf (opc : Byte) : (acceptCommon opc s).wf = s.wf := (rfl)
@[simp] theorem acceptCommon_fv (opc : Byte) : (acceptCommon opc s).fv = s.fv := (rfl)
@[simp] theorem acceptCommon_v (opc : Byte) : (acceptCommon opc s).v = s.v := (rfl)
@[simp] theorem acceptCommon_rv (opc : Byte) : (acceptCommon opc s).rv = s.rv := (rfl)
@[simp] theorem acceptCommon_uv (opc : Byte) : (acceptCommon opc s).uv = s.uv := (rfl)
@[simp] theorem acceptCommon_cause (opc : Byte) : (acceptCommon opc s).cause = .none := (rfl)
@[simp] theorem acceptCommon_eph (opc : Byte) : (acceptCommon opc s).eph = .idle := (rfl)
@[simp] theorem acceptCommon_edesc (opc : Byte) : (acceptCommon opc s).edesc = 0 := (rfl)
@[simp] theorem acceptCommon_wdesc (opc : Byte) : (acceptCommon opc s).wdesc = s.wdesc := (rfl)
@[simp] theorem acceptCommon_script (opc : Byte) : (acceptCommon opc s).script = s.script := (rfl)
@[simp] theorem acceptCommon_draws (opc : Byte) : (acceptCommon opc s).draws = s.draws := (rfl)
@[simp] theorem acceptCommon_calls (opc : Byte) : (acceptCommon opc s).calls = s.calls := (rfl)
@[simp] theorem acceptCommon_reads (opc : Byte) : (acceptCommon opc s).reads = s.reads := (rfl)

/-! ### finish -/

@[simp] theorem finish_acc : (finish s).acc = s.acc := (rfl)
@[simp] theorem finish_facc : (finish s).facc = s.facc := (rfl)
@[simp] theorem finish_fb : (finish s).fb = s.fb := (rfl)
@[simp] theorem finish_cnt : (finish s).cnt = s.cnt := (rfl)
@[simp] theorem finish_hum : (finish s).hum = s.hum := (rfl)
@[simp] theorem finish_tmp : (finish s).tmp = s.tmp := (rfl)
@[simp] theorem finish_uid : (finish s).uid = s.uid := (rfl)
@[simp] theorem finish_opr : (finish s).opr = s.opr := (rfl)
@[simp] theorem finish_cmd : (finish s).cmd = s.cmd := (rfl)
@[simp] theorem finish_raddr : (finish s).raddr = s.raddr := (rfl)
@[simp] theorem finish_rcnt : (finish s).rcnt = s.rcnt := (rfl)
@[simp] theorem finish_ph : (finish s).ph = s.ph := (rfl)
@[simp] theorem finish_tmr : (finish s).tmr = s.tmr := (rfl)
@[simp] theorem finish_done : (finish s).done = true := (rfl)
@[simp] theorem finish_err : (finish s).err = s.err := (rfl)
@[simp] theorem finish_fault : (finish s).fault = s.fault := (rfl)
@[simp] theorem finish_wf : (finish s).wf = s.wf := (rfl)
@[simp] theorem finish_fv : (finish s).fv = s.fv := (rfl)
@[simp] theorem finish_v : (finish s).v = s.v := (rfl)
@[simp] theorem finish_rv : (finish s).rv = s.rv := (rfl)
@[simp] theorem finish_uv : (finish s).uv = s.uv := (rfl)
@[simp] theorem finish_cause : (finish s).cause = s.cause := (rfl)
@[simp] theorem finish_eph : (finish s).eph = s.eph := (rfl)
@[simp] theorem finish_edesc : (finish s).edesc = s.edesc := (rfl)
@[simp] theorem finish_wdesc : (finish s).wdesc = s.wdesc := (rfl)
@[simp] theorem finish_script : (finish s).script = s.script := (rfl)
@[simp] theorem finish_draws : (finish s).draws = s.draws := (rfl)
@[simp] theorem finish_calls : (finish s).calls = s.calls := (rfl)
@[simp] theorem finish_reads : (finish s).reads = s.reads := (rfl)

/-! ### complete -/

@[simp] theorem complete_acc : (complete s).acc = s.acc := (rfl)
@[simp] theorem complete_facc : (complete s).facc = s.facc := (rfl)
@[simp] theorem complete_fb : (complete s).fb = s.fb := (rfl)
@[simp] theorem complete_cnt : (complete s).cnt = s.cnt := (rfl)
@[simp] theorem complete_hum : (complete s).hum = s.hum := (rfl)
@[simp] theorem complete_tmp : (complete s).tmp = s.tmp := (rfl)
@[simp] theorem complete_uid : (complete s).uid = s.uid := (rfl)
@[simp] theorem complete_opr : (complete s).opr = s.opr := (rfl)
@[simp] theorem complete_cmd : (complete s).cmd = s.cmd := (rfl)
@[simp] theorem complete_raddr : (complete s).raddr = s.raddr := (rfl)
@[simp] theorem complete_rcnt : (complete s).rcnt = s.rcnt := (rfl)
@[simp] theorem complete_ph : (complete s).ph = .idle := (rfl)
@[simp] theorem complete_tmr : (complete s).tmr = s.tmr := (rfl)
@[simp] theorem complete_done : (complete s).done = true := (rfl)
@[simp] theorem complete_err : (complete s).err = s.err := (rfl)
@[simp] theorem complete_fault : (complete s).fault = s.fault := (rfl)
@[simp] theorem complete_wf : (complete s).wf = s.wf := (rfl)
@[simp] theorem complete_fv : (complete s).fv = s.fv := (rfl)
@[simp] theorem complete_v : (complete s).v = s.v := (rfl)
@[simp] theorem complete_rv : (complete s).rv = s.rv := (rfl)
@[simp] theorem complete_uv : (complete s).uv = s.uv := (rfl)
@[simp] theorem complete_cause : (complete s).cause = s.cause := (rfl)
@[simp] theorem complete_eph : (complete s).eph = s.eph := (rfl)
@[simp] theorem complete_edesc : (complete s).edesc = s.edesc := (rfl)
@[simp] theorem complete_wdesc : (complete s).wdesc = s.wdesc := (rfl)
@[simp] theorem complete_script : (complete s).script = s.script := (rfl)
@[simp] theorem complete_draws : (complete s).draws = s.draws := (rfl)
@[simp] theorem complete_calls : (complete s).calls = s.calls := (rfl)
@[simp] theorem complete_reads : (complete s).reads = s.reads := (rfl)

/-! ### raiseComm -/

@[simp] theorem raiseComm_acc (c : Cause) (d : Byte) : (raiseComm c d s).acc = s.acc := (rfl)
@[simp] theorem raiseComm_facc (c : Cause) (d : Byte) : (raiseComm c d s).facc = s.facc := (rfl)
@[simp] theorem raiseComm_fb (c : Cause) (d : Byte) : (raiseComm c d s).fb = s.fb := (rfl)
@[simp] theorem raiseComm_cnt (c : Cause) (d : Byte) : (raiseComm c d s).cnt = s.cnt := (rfl)
@[simp] theorem raiseComm_hum (c : Cause) (d : Byte) : (raiseComm c d s).hum = s.hum := (rfl)
@[simp] theorem raiseComm_tmp (c : Cause) (d : Byte) : (raiseComm c d s).tmp = s.tmp := (rfl)
@[simp] theorem raiseComm_uid (c : Cause) (d : Byte) : (raiseComm c d s).uid = s.uid := (rfl)
@[simp] theorem raiseComm_opr (c : Cause) (d : Byte) : (raiseComm c d s).opr = s.opr := (rfl)
@[simp] theorem raiseComm_cmd (c : Cause) (d : Byte) : (raiseComm c d s).cmd = s.cmd := (rfl)
@[simp] theorem raiseComm_raddr (c : Cause) (d : Byte) : (raiseComm c d s).raddr = s.raddr := (rfl)
@[simp] theorem raiseComm_rcnt (c : Cause) (d : Byte) : (raiseComm c d s).rcnt = s.rcnt := (rfl)
@[simp] theorem raiseComm_ph (c : Cause) (d : Byte) : (raiseComm c d s).ph = .idle := (rfl)
@[simp] theorem raiseComm_tmr (c : Cause) (d : Byte) : (raiseComm c d s).tmr = s.tmr := (rfl)
@[simp] theorem raiseComm_done (c : Cause) (d : Byte) : (raiseComm c d s).done = true := (rfl)
@[simp] theorem raiseComm_err (c : Cause) (d : Byte) : (raiseComm c d s).err = true := (rfl)
@[simp] theorem raiseComm_fault (c : Cause) (d : Byte) : (raiseComm c d s).fault = s.fault := (rfl)
@[simp] theorem raiseComm_wf (c : Cause) (d : Byte) : (raiseComm c d s).wf = s.wf := (rfl)
@[simp] theorem raiseComm_fv (c : Cause) (d : Byte) : (raiseComm c d s).fv = s.fv := (rfl)
@[simp] theorem raiseComm_v (c : Cause) (d : Byte) : (raiseComm c d s).v = s.v := (rfl)
@[simp] theorem raiseComm_rv (c : Cause) (d : Byte) : (raiseComm c d s).rv = s.rv := (rfl)
@[simp] theorem raiseComm_uv (c : Cause) (d : Byte) : (raiseComm c d s).uv = s.uv := (rfl)
@[simp] theorem raiseComm_cause (c : Cause) (d : Byte) : (raiseComm c d s).cause = c := (rfl)
@[simp] theorem raiseComm_eph (c : Cause) (d : Byte) : (raiseComm c d s).eph = s.ph := (rfl)
@[simp] theorem raiseComm_edesc (c : Cause) (d : Byte) : (raiseComm c d s).edesc = d := (rfl)
@[simp] theorem raiseComm_wdesc (c : Cause) (d : Byte) : (raiseComm c d s).wdesc = s.wdesc := (rfl)
@[simp] theorem raiseComm_script (c : Cause) (d : Byte) : (raiseComm c d s).script = s.script := (rfl)
@[simp] theorem raiseComm_draws (c : Cause) (d : Byte) : (raiseComm c d s).draws = s.draws := (rfl)
@[simp] theorem raiseComm_calls (c : Cause) (d : Byte) : (raiseComm c d s).calls = s.calls := (rfl)
@[simp] theorem raiseComm_reads (c : Cause) (d : Byte) : (raiseComm c d s).reads = s.reads := (rfl)

/-! ### raiseFault -/

@[simp] theorem raiseFault_acc (c : Cause) : (raiseFault c s).acc = s.acc := (rfl)
@[simp] theorem raiseFault_facc (c : Cause) : (raiseFault c s).facc = s.facc := (rfl)
@[simp] theorem raiseFault_fb (c : Cause) : (raiseFault c s).fb = s.fb := (rfl)
@[simp] theorem raiseFault_cnt (c : Cause) : (raiseFault c s).cnt = s.cnt := (rfl)
@[simp] theorem raiseFault_hum (c : Cause) : (raiseFault c s).hum = s.hum := (rfl)
@[simp] theorem raiseFault_tmp (c : Cause) : (raiseFault c s).tmp = s.tmp := (rfl)
@[simp] theorem raiseFault_uid (c : Cause) : (raiseFault c s).uid = s.uid := (rfl)
@[simp] theorem raiseFault_opr (c : Cause) : (raiseFault c s).opr = s.opr := (rfl)
@[simp] theorem raiseFault_cmd (c : Cause) : (raiseFault c s).cmd = s.cmd := (rfl)
@[simp] theorem raiseFault_raddr (c : Cause) : (raiseFault c s).raddr = s.raddr := (rfl)
@[simp] theorem raiseFault_rcnt (c : Cause) : (raiseFault c s).rcnt = s.rcnt := (rfl)
@[simp] theorem raiseFault_ph (c : Cause) : (raiseFault c s).ph = .idle := (rfl)
@[simp] theorem raiseFault_tmr (c : Cause) : (raiseFault c s).tmr = s.tmr := (rfl)
@[simp] theorem raiseFault_done (c : Cause) : (raiseFault c s).done = true := (rfl)
@[simp] theorem raiseFault_err (c : Cause) : (raiseFault c s).err = true := (rfl)
@[simp] theorem raiseFault_fault (c : Cause) : (raiseFault c s).fault = true := (rfl)
@[simp] theorem raiseFault_wf (c : Cause) : (raiseFault c s).wf = s.wf := (rfl)
@[simp] theorem raiseFault_fv (c : Cause) : (raiseFault c s).fv = s.fv := (rfl)
@[simp] theorem raiseFault_v (c : Cause) : (raiseFault c s).v = s.v := (rfl)
@[simp] theorem raiseFault_rv (c : Cause) : (raiseFault c s).rv = s.rv := (rfl)
@[simp] theorem raiseFault_uv (c : Cause) : (raiseFault c s).uv = s.uv := (rfl)
@[simp] theorem raiseFault_cause (c : Cause) : (raiseFault c s).cause = c := (rfl)
@[simp] theorem raiseFault_eph (c : Cause) : (raiseFault c s).eph = .idle := (rfl)
@[simp] theorem raiseFault_edesc (c : Cause) : (raiseFault c s).edesc = 0 := (rfl)
@[simp] theorem raiseFault_wdesc (c : Cause) : (raiseFault c s).wdesc = s.wdesc := (rfl)
@[simp] theorem raiseFault_script (c : Cause) : (raiseFault c s).script = s.script := (rfl)
@[simp] theorem raiseFault_draws (c : Cause) : (raiseFault c s).draws = s.draws := (rfl)
@[simp] theorem raiseFault_calls (c : Cause) : (raiseFault c s).calls = s.calls := (rfl)
@[simp] theorem raiseFault_reads (c : Cause) : (raiseFault c s).reads = s.reads := (rfl)

/-! ### startTransaction -/

@[simp] theorem startTransaction_acc (c r n : Byte) : (startTransaction c r n s).acc = s.acc := (rfl)
@[simp] theorem startTransaction_facc (c r n : Byte) : (startTransaction c r n s).facc = Config.crcInit := (rfl)
@[simp] theorem startTransaction_fb (c r n : Byte) : (startTransaction c r n s).fb = s.fb := (rfl)
@[simp] theorem startTransaction_cnt (c r n : Byte) : (startTransaction c r n s).cnt = 0 := (rfl)
@[simp] theorem startTransaction_hum (c r n : Byte) : (startTransaction c r n s).hum = s.hum := (rfl)
@[simp] theorem startTransaction_tmp (c r n : Byte) : (startTransaction c r n s).tmp = s.tmp := (rfl)
@[simp] theorem startTransaction_uid (c r n : Byte) : (startTransaction c r n s).uid = s.uid := (rfl)
@[simp] theorem startTransaction_opr (c r n : Byte) : (startTransaction c r n s).opr = s.opr := (rfl)
@[simp] theorem startTransaction_cmd (c r n : Byte) : (startTransaction c r n s).cmd = c := (rfl)
@[simp] theorem startTransaction_raddr (c r n : Byte) : (startTransaction c r n s).raddr = r := (rfl)
@[simp] theorem startTransaction_rcnt (c r n : Byte) : (startTransaction c r n s).rcnt = n := (rfl)
@[simp] theorem startTransaction_ph (c r n : Byte) : (startTransaction c r n s).ph = .wake := (rfl)
@[simp] theorem startTransaction_tmr (c r n : Byte) : (startTransaction c r n s).tmr = s.tmr := (rfl)
@[simp] theorem startTransaction_done (c r n : Byte) : (startTransaction c r n s).done = s.done := (rfl)
@[simp] theorem startTransaction_err (c r n : Byte) : (startTransaction c r n s).err = s.err := (rfl)
@[simp] theorem startTransaction_fault (c r n : Byte) : (startTransaction c r n s).fault = s.fault := (rfl)
@[simp] theorem startTransaction_wf (c r n : Byte) : (startTransaction c r n s).wf = false := (rfl)
@[simp] theorem startTransaction_fv (c r n : Byte) : (startTransaction c r n s).fv = false := (rfl)
@[simp] theorem startTransaction_v (c r n : Byte) : (startTransaction c r n s).v = false := (rfl)
@[simp] theorem startTransaction_rv (c r n : Byte) : (startTransaction c r n s).rv = s.rv := (rfl)
@[simp] theorem startTransaction_uv (c r n : Byte) : (startTransaction c r n s).uv = s.uv := (rfl)
@[simp] theorem startTransaction_cause (c r n : Byte) : (startTransaction c r n s).cause = s.cause := (rfl)
@[simp] theorem startTransaction_eph (c r n : Byte) : (startTransaction c r n s).eph = s.eph := (rfl)
@[simp] theorem startTransaction_edesc (c r n : Byte) : (startTransaction c r n s).edesc = s.edesc := (rfl)
@[simp] theorem startTransaction_wdesc (c r n : Byte) : (startTransaction c r n s).wdesc = 0 := (rfl)
@[simp] theorem startTransaction_script (c r n : Byte) : (startTransaction c r n s).script = s.script := (rfl)
@[simp] theorem startTransaction_draws (c r n : Byte) : (startTransaction c r n s).draws = s.draws := (rfl)
@[simp] theorem startTransaction_calls (c r n : Byte) : (startTransaction c r n s).calls = s.calls := (rfl)
@[simp] theorem startTransaction_reads (c r n : Byte) : (startTransaction c r n s).reads = s.reads := (rfl)

/-! ### logCall -/

@[simp] theorem logCall_acc (c : BusCall) : (logCall c s).acc = s.acc := (rfl)
@[simp] theorem logCall_facc (c : BusCall) : (logCall c s).facc = s.facc := (rfl)
@[simp] theorem logCall_fb (c : BusCall) : (logCall c s).fb = s.fb := (rfl)
@[simp] theorem logCall_cnt (c : BusCall) : (logCall c s).cnt = s.cnt := (rfl)
@[simp] theorem logCall_hum (c : BusCall) : (logCall c s).hum = s.hum := (rfl)
@[simp] theorem logCall_tmp (c : BusCall) : (logCall c s).tmp = s.tmp := (rfl)
@[simp] theorem logCall_uid (c : BusCall) : (logCall c s).uid = s.uid := (rfl)
@[simp] theorem logCall_opr (c : BusCall) : (logCall c s).opr = s.opr := (rfl)
@[simp] theorem logCall_cmd (c : BusCall) : (logCall c s).cmd = s.cmd := (rfl)
@[simp] theorem logCall_raddr (c : BusCall) : (logCall c s).raddr = s.raddr := (rfl)
@[simp] theorem logCall_rcnt (c : BusCall) : (logCall c s).rcnt = s.rcnt := (rfl)
@[simp] theorem logCall_ph (c : BusCall) : (logCall c s).ph = s.ph := (rfl)
@[simp] theorem logCall_tmr (c : BusCall) : (logCall c s).tmr = s.tmr := (rfl)
@[simp] theorem logCall_done (c : BusCall) : (logCall c s).done = s.done := (rfl)
@[simp] theorem logCall_err (c : BusCall) : (logCall c s).err = s.err := (rfl)
@[simp] theorem logCall_fault (c : BusCall) : (logCall c s).fault = s.fault := (rfl)
@[simp] theorem logCall_wf (c : BusCall) : (logCall c s).wf = s.wf := (rfl)
@[simp] theorem logCall_fv (c : BusCall) : (logCall c s).fv = s.fv := (rfl)
@[simp] theorem logCall_v (c : BusCall) : (logCall c s).v = s.v := (rfl)
@[simp] theorem logCall_rv (c : BusCall) : (logCall c s).rv = s.rv := (rfl)
@[simp] theorem logCall_uv (c : BusCall) : (logCall c s).uv = s.uv := (rfl)
@[simp] theorem logCall_cause (c : BusCall) : (logCall c s).cause = s.cause := (rfl)
@[simp] theorem logCall_eph (c : BusCall) : (logCall c s).eph = s.eph := (rfl)
@[simp] theorem logCall_edesc (c : BusCall) : (logCall c s).edesc = s.edesc := (rfl)
@[simp] theorem logCall_wdesc (c : BusCall) : (logCall c s).wdesc = s.wdesc := (rfl)
@[simp] theorem logCall_script (c : BusCall) : (logCall c s).script = s.script := (rfl)
@[simp] theorem logCall_draws (c : BusCall) : (logCall c s).draws = s.draws := (rfl)
@[simp] theorem logCall_calls (c : BusCall) : (logCall c s).calls = s.calls ++ [c] := (rfl)
@[simp] theorem logCall_reads (c : BusCall) : (logCall c s).reads = s.reads := (rfl)

/-! ### compareFrame -/

@[simp] theorem compareFrame_acc : (compareFrame s).acc = s.acc := (rfl)
@[simp] theorem compareFrame_facc : (compareFrame s).facc = crc16 (summedPart s.fb) := (rfl)
@[simp] theorem compareFrame_fb : (compareFrame s).fb = s.fb := (rfl)
@[simp] theorem compareFrame_cnt : (compareFrame s).cnt = s.cnt := (rfl)
@[simp] theorem compareFrame_hum : (compareFrame s).hum = s.hum := (rfl)
@[simp] theorem compareFrame_tmp : (compareFrame s).tmp = s.tmp := (rfl)
@[simp] theorem compareFrame_uid : (compareFrame s).uid = s.uid := (rfl)
@[simp] theorem compareFrame_opr : (compareFrame s).opr = s.opr := (rfl)
@[simp] theorem compareFrame_cmd : (compareFrame s).cmd = s.cmd := (rfl)
@[simp] theorem compareFrame_raddr : (compareFrame s).raddr = s.raddr := (rfl)
@[simp] theorem compareFrame_rcnt : (compareFrame s).rcnt = s.rcnt := (rfl)
@[simp] theorem compareFrame_ph : (compareFrame s).ph = s.ph := (rfl)
@[simp] theorem compareFrame_tmr : (compareFrame s).tmr = s.tmr := (rfl)
@[simp] theorem compareFrame_done : (compareFrame s).done = s.done := (rfl)
@[simp] theorem compareFrame_err : (compareFrame s).err = s.err := (rfl)
@[simp] theorem compareFrame_fault : (compareFrame s).fault = s.fault := (rfl)
@[simp] theorem compareFrame_wf : (compareFrame s).wf = s.wf := (rfl)
@[simp] theorem compareFrame_fv : (compareFrame s).fv = s.fv := (rfl)
@[simp] theorem compareFrame_v : (compareFrame s).v = frameValid s.fb := (rfl)
@[simp] theorem compareFrame_rv : (compareFrame s).rv = s.rv := (rfl)
@[simp] theorem compareFrame_uv : (compareFrame s).uv = s.uv := (rfl)
@[simp] theorem compareFrame_cause : (compareFrame s).cause = s.cause := (rfl)
@[simp] theorem compareFrame_eph : (compareFrame s).eph = s.eph := (rfl)
@[simp] theorem compareFrame_edesc : (compareFrame s).edesc = s.edesc := (rfl)
@[simp] theorem compareFrame_wdesc : (compareFrame s).wdesc = s.wdesc := (rfl)
@[simp] theorem compareFrame_script : (compareFrame s).script = s.script := (rfl)
@[simp] theorem compareFrame_draws : (compareFrame s).draws = s.draws := (rfl)
@[simp] theorem compareFrame_calls : (compareFrame s).calls = s.calls := (rfl)
@[simp] theorem compareFrame_reads : (compareFrame s).reads = s.reads := (rfl)

/-! ### deliverReading -/

@[simp] theorem deliverReading_acc : (deliverReading s).acc = s.acc := (rfl)
@[simp] theorem deliverReading_facc : (deliverReading s).facc = s.facc := (rfl)
@[simp] theorem deliverReading_fb : (deliverReading s).fb = s.fb := (rfl)
@[simp] theorem deliverReading_cnt : (deliverReading s).cnt = s.cnt := (rfl)
@[simp] theorem deliverReading_hum : (deliverReading s).hum = (frameReading s.fb).humidity := (rfl)
@[simp] theorem deliverReading_tmp : (deliverReading s).tmp = (frameReading s.fb).temperature := (rfl)
@[simp] theorem deliverReading_uid : (deliverReading s).uid = s.uid := (rfl)
@[simp] theorem deliverReading_opr : (deliverReading s).opr = s.opr := (rfl)
@[simp] theorem deliverReading_cmd : (deliverReading s).cmd = s.cmd := (rfl)
@[simp] theorem deliverReading_raddr : (deliverReading s).raddr = s.raddr := (rfl)
@[simp] theorem deliverReading_rcnt : (deliverReading s).rcnt = s.rcnt := (rfl)
@[simp] theorem deliverReading_ph : (deliverReading s).ph = s.ph := (rfl)
@[simp] theorem deliverReading_tmr : (deliverReading s).tmr = s.tmr := (rfl)
@[simp] theorem deliverReading_done : (deliverReading s).done = s.done := (rfl)
@[simp] theorem deliverReading_err : (deliverReading s).err = s.err := (rfl)
@[simp] theorem deliverReading_fault : (deliverReading s).fault = s.fault := (rfl)
@[simp] theorem deliverReading_wf : (deliverReading s).wf = s.wf := (rfl)
@[simp] theorem deliverReading_fv : (deliverReading s).fv = s.fv := (rfl)
@[simp] theorem deliverReading_v : (deliverReading s).v = s.v := (rfl)
@[simp] theorem deliverReading_rv : (deliverReading s).rv = true := (rfl)
@[simp] theorem deliverReading_uv : (deliverReading s).uv = s.uv := (rfl)
@[simp] theorem deliverReading_cause : (deliverReading s).cause = s.cause := (rfl)
@[simp] theorem deliverReading_eph : (deliverReading s).eph = s.eph := (rfl)
@[simp] theorem deliverReading_edesc : (deliverReading s).edesc = s.edesc := (rfl)
@[simp] theorem deliverReading_wdesc : (deliverReading s).wdesc = s.wdesc := (rfl)
@[simp] theorem deliverReading_script : (deliverReading s).script = s.script := (rfl)
@[simp] theorem deliverReading_draws : (deliverReading s).draws = s.draws := (rfl)
@[simp] theorem deliverReading_calls : (deliverReading s).calls = s.calls := (rfl)
@[simp] theorem deliverReading_reads : (deliverReading s).reads = s.reads := (rfl)

/-! ### deliverUid -/

@[simp] theorem deliverUid_acc : (deliverUid s).acc = s.acc := (rfl)
@[simp] theorem deliverUid_facc : (deliverUid s).facc = s.facc := (rfl)
@[simp] theorem deliverUid_fb : (deliverUid s).fb = s.fb := (rfl)
@[simp] theorem deliverUid_cnt : (deliverUid s).cnt = s.cnt := (rfl)
@[simp] theorem deliverUid_hum : (deliverUid s).hum = s.hum := (rfl)
@[simp] theorem deliverUid_tmp : (deliverUid s).tmp = s.tmp := (rfl)
@[simp] theorem deliverUid_uid : (deliverUid s).uid = frameUid s.fb := (rfl)
@[simp] theorem deliverUid_opr : (deliverUid s).opr = s.opr := (rfl)
@[simp] theorem deliverUid_cmd : (deliverUid s).cmd = s.cmd := (rfl)
@[simp] theorem deliverUid_raddr : (deliverUid s).raddr = s.raddr := (rfl)
@[simp] theorem deliverUid_rcnt : (deliverUid s).rcnt = s.rcnt := (rfl)
@[simp] theorem deliverUid_ph : (deliverUid s).ph = s.ph := (rfl)
@[simp] theorem deliverUid_tmr : (deliverUid s).tmr = s.tmr := (rfl)
@[simp] theorem deliverUid_done : (deliverUid s).done = s.done := (rfl)
@[simp] theorem deliverUid_err : (deliverUid s).err = s.err := (rfl)
@[simp] theorem deliverUid_fault : (deliverUid s).fault = s.fault := (rfl)
@[simp] theorem deliverUid_wf : (deliverUid s).wf = s.wf := (rfl)
@[simp] theorem deliverUid_fv : (deliverUid s).fv = s.fv := (rfl)
@[simp] theorem deliverUid_v : (deliverUid s).v = s.v := (rfl)
@[simp] theorem deliverUid_rv : (deliverUid s).rv = s.rv := (rfl)
@[simp] theorem deliverUid_uv : (deliverUid s).uv = true := (rfl)
@[simp] theorem deliverUid_cause : (deliverUid s).cause = s.cause := (rfl)
@[simp] theorem deliverUid_eph : (deliverUid s).eph = s.eph := (rfl)
@[simp] theorem deliverUid_edesc : (deliverUid s).edesc = s.edesc := (rfl)
@[simp] theorem deliverUid_wdesc : (deliverUid s).wdesc = s.wdesc := (rfl)
@[simp] theorem deliverUid_script : (deliverUid s).script = s.script := (rfl)
@[simp] theorem deliverUid_draws : (deliverUid s).draws = s.draws := (rfl)
@[simp] theorem deliverUid_calls : (deliverUid s).calls = s.calls := (rfl)
@[simp] theorem deliverUid_reads : (deliverUid s).reads = s.reads := (rfl)

/-! ### readRegister -/

@[simp] theorem readRegister_acc (n : BitVec 5) : (readRegister n s).acc = s.acc := (rfl)
@[simp] theorem readRegister_facc (n : BitVec 5) : (readRegister n s).facc = s.facc := (rfl)
@[simp] theorem readRegister_fb (n : BitVec 5) : (readRegister n s).fb = s.fb := (rfl)
@[simp] theorem readRegister_cnt (n : BitVec 5) : (readRegister n s).cnt = s.cnt := (rfl)
@[simp] theorem readRegister_hum (n : BitVec 5) : (readRegister n s).hum = s.hum := (rfl)
@[simp] theorem readRegister_tmp (n : BitVec 5) : (readRegister n s).tmp = s.tmp := (rfl)
@[simp] theorem readRegister_uid (n : BitVec 5) : (readRegister n s).uid = s.uid := (rfl)
@[simp] theorem readRegister_opr (n : BitVec 5) : (readRegister n s).opr = s.opr := (rfl)
@[simp] theorem readRegister_cmd (n : BitVec 5) : (readRegister n s).cmd = s.cmd := (rfl)
@[simp] theorem readRegister_raddr (n : BitVec 5) : (readRegister n s).raddr = s.raddr := (rfl)
@[simp] theorem readRegister_rcnt (n : BitVec 5) : (readRegister n s).rcnt = s.rcnt := (rfl)
@[simp] theorem readRegister_ph (n : BitVec 5) : (readRegister n s).ph = s.ph := (rfl)
@[simp] theorem readRegister_tmr (n : BitVec 5) : (readRegister n s).tmr = s.tmr := (rfl)
@[simp] theorem readRegister_done (n : BitVec 5) : (readRegister n s).done = s.done := (rfl)
@[simp] theorem readRegister_err (n : BitVec 5) : (readRegister n s).err = s.err := (rfl)
@[simp] theorem readRegister_fault (n : BitVec 5) : (readRegister n s).fault = s.fault := (rfl)
@[simp] theorem readRegister_wf (n : BitVec 5) : (readRegister n s).wf = s.wf := (rfl)
@[simp] theorem readRegister_fv (n : BitVec 5) : (readRegister n s).fv = s.fv := (rfl)
@[simp] theorem readRegister_v (n : BitVec 5) : (readRegister n s).v = s.v := (rfl)
@[simp] theorem readRegister_rv (n : BitVec 5) : (readRegister n s).rv = s.rv := (rfl)
@[simp] theorem readRegister_uv (n : BitVec 5) : (readRegister n s).uv = s.uv := (rfl)
@[simp] theorem readRegister_cause (n : BitVec 5) : (readRegister n s).cause = s.cause := (rfl)
@[simp] theorem readRegister_eph (n : BitVec 5) : (readRegister n s).eph = s.eph := (rfl)
@[simp] theorem readRegister_edesc (n : BitVec 5) : (readRegister n s).edesc = s.edesc := (rfl)
@[simp] theorem readRegister_wdesc (n : BitVec 5) : (readRegister n s).wdesc = s.wdesc := (rfl)
@[simp] theorem readRegister_script (n : BitVec 5) : (readRegister n s).script = s.script := (rfl)
@[simp] theorem readRegister_draws (n : BitVec 5) : (readRegister n s).draws = s.draws := (rfl)
@[simp] theorem readRegister_calls (n : BitVec 5) : (readRegister n s).calls = s.calls := (rfl)
@[simp] theorem readRegister_reads (n : BitVec 5) : (readRegister n s).reads = s.reads ++ [(n, s.readPort n)] := (rfl)

/-! ### takeChoice and resetBlock -/

@[simp] theorem takeChoice_acc : (takeChoice s).acc = s.acc := by unfold takeChoice; split <;> rfl
@[simp] theorem takeChoice_facc : (takeChoice s).facc = s.facc := by unfold takeChoice; split <;> rfl
@[simp] theorem takeChoice_fb : (takeChoice s).fb = s.fb := by unfold takeChoice; split <;> rfl
@[simp] theorem takeChoice_cnt : (takeChoice s).cnt = s.cnt := by unfold takeChoice; split <;> rfl
@[simp] theorem takeChoice_hum : (takeChoice s).hum = s.hum := by unfold takeChoice; split <;> rfl
@[simp] theorem takeChoice_tmp : (takeChoice s).tmp = s.tmp := by unfold takeChoice; split <;> rfl
@[simp] theorem takeChoice_uid : (takeChoice s).uid = s.uid := by unfold takeChoice; split <;> rfl
@[simp] theorem takeChoice_opr : (takeChoice s).opr = s.opr := by unfold takeChoice; split <;> rfl
@[simp] theorem takeChoice_cmd : (takeChoice s).cmd = s.cmd := by unfold takeChoice; split <;> rfl
@[simp] theorem takeChoice_raddr : (takeChoice s).raddr = s.raddr := by unfold takeChoice; split <;> rfl
@[simp] theorem takeChoice_rcnt : (takeChoice s).rcnt = s.rcnt := by unfold takeChoice; split <;> rfl
@[simp] theorem takeChoice_ph : (takeChoice s).ph = s.ph := by unfold takeChoice; split <;> rfl
@[simp] theorem takeChoice_tmr : (takeChoice s).tmr = s.tmr := by unfold takeChoice; split <;> rfl
@[simp] theorem takeChoice_done : (takeChoice s).done = s.done := by unfold takeChoice; split <;> rfl
@[simp] theorem takeChoice_err : (takeChoice s).err = s.err := by unfold takeChoice; split <;> rfl
@[simp] theorem takeChoice_fault : (takeChoice s).fault = s.fault := by unfold takeChoice; split <;> rfl
@[simp] theorem takeChoice_wf : (takeChoice s).wf = s.wf := by unfold takeChoice; split <;> rfl
@[simp] theorem takeChoice_fv : (takeChoice s).fv = s.fv := by unfold takeChoice; split <;> rfl
@[simp] theorem takeChoice_v : (takeChoice s).v = s.v := by unfold takeChoice; split <;> rfl
@[simp] theorem takeChoice_rv : (takeChoice s).rv = s.rv := by unfold takeChoice; split <;> rfl
@[simp] theorem takeChoice_uv : (takeChoice s).uv = s.uv := by unfold takeChoice; split <;> rfl
@[simp] theorem takeChoice_cause : (takeChoice s).cause = s.cause := by unfold takeChoice; split <;> rfl
@[simp] theorem takeChoice_eph : (takeChoice s).eph = s.eph := by unfold takeChoice; split <;> rfl
@[simp] theorem takeChoice_edesc : (takeChoice s).edesc = s.edesc := by unfold takeChoice; split <;> rfl
@[simp] theorem takeChoice_wdesc : (takeChoice s).wdesc = s.wdesc := by unfold takeChoice; split <;> rfl
@[simp] theorem takeChoice_calls : (takeChoice s).calls = s.calls := by unfold takeChoice; split <;> rfl
@[simp] theorem takeChoice_reads : (takeChoice s).reads = s.reads := by unfold takeChoice; split <;> rfl

@[simp] theorem resetBlock_acc : (resetBlock s).acc = Config.crcInit := (rfl)
@[simp] theorem resetBlock_facc : (resetBlock s).facc = Config.crcInit := (rfl)
@[simp] theorem resetBlock_cnt : (resetBlock s).cnt = 0 := (rfl)
@[simp] theorem resetBlock_opr : (resetBlock s).opr = 0 := (rfl)
@[simp] theorem resetBlock_ph : (resetBlock s).ph = .idle := (rfl)
@[simp] theorem resetBlock_tmr : (resetBlock s).tmr = 0 := (rfl)
@[simp] theorem resetBlock_done : (resetBlock s).done = false := (rfl)
@[simp] theorem resetBlock_err : (resetBlock s).err = false := (rfl)
@[simp] theorem resetBlock_fault : (resetBlock s).fault = false := (rfl)
@[simp] theorem resetBlock_wf : (resetBlock s).wf = false := (rfl)
@[simp] theorem resetBlock_fv : (resetBlock s).fv = false := (rfl)
@[simp] theorem resetBlock_v : (resetBlock s).v = false := (rfl)
@[simp] theorem resetBlock_rv : (resetBlock s).rv = false := (rfl)
@[simp] theorem resetBlock_uv : (resetBlock s).uv = false := (rfl)
@[simp] theorem resetBlock_cause : (resetBlock s).cause = .none := (rfl)
@[simp] theorem resetBlock_eph : (resetBlock s).eph = .idle := (rfl)
@[simp] theorem resetBlock_edesc : (resetBlock s).edesc = 0 := (rfl)
@[simp] theorem resetBlock_wdesc : (resetBlock s).wdesc = 0 := (rfl)
@[simp] theorem resetBlock_script : (resetBlock s).script = s.script := (rfl)
@[simp] theorem resetBlock_draws : (resetBlock s).draws = s.draws + 1 := (rfl)
@[simp] theorem resetBlock_calls : (resetBlock s).calls = s.calls := (rfl)
@[simp] theorem resetBlock_reads : (resetBlock s).reads = s.reads := (rfl)

end Sys2Proof.Machine
end

