-- ==== Sys2Proof/Laws/Ops.lean ====
section
/-! SUPPORT. What each shared operation and the step can do, said once: an accept step, presenting a word, taking an
event, one step, a run. Later proofs cite these and unfold none of them. -/

namespace Sys2Proof.Machine

open Host (Outcome)

/-! ### The port -/

theorem ready_iff (s : State) : s.ready = true ↔ s.ph = .idle ∧ s.fault = false := by
  simp [State.ready]

theorem ready_false_iff (s : State) : s.ready = false ↔ s.ph ≠ .idle ∨ s.fault = true := by
  rw [← Bool.not_eq_true, ready_iff, not_and_or, Bool.not_eq_false]

/-- An accept step on a ready port runs the operation's own effect after accept-common. -/
theorem acceptOp_ready {opc : Byte} {body : State → State} {s : State} (h : s.ready = true) :
    acceptOp opc body s = .next (body (acceptCommon opc s)) := if_pos h

/-- An accept step on a port that is not ready changes nothing. -/
theorem acceptOp_notReady {opc : Byte} {body : State → State} {s : State} (h : s.ready = false) :
    acceptOp opc body s = .next s := if_neg (by simp [h])

/-- Everything an accept step can answer. -/
theorem acceptOp_cases {opc : Byte} {body : State → State} {s t : State} (h : acceptOp opc body s = .next t) :
    (s.ready = true ∧ t = body (acceptCommon opc s)) ∨ (s.ready = false ∧ t = s) := by
  cases hr : s.ready with
  | true => rw [acceptOp_ready hr] at h; exact .inl ⟨rfl, by simpa using h.symm⟩
  | false => rw [acceptOp_notReady hr] at h; exact .inr ⟨rfl, by simpa using h.symm⟩

/-! ### Operations -/

/-- What an operation writes after accept-common. -/
def bodyOf : Instr → State → State
  | .cinit => cinitBody
  | .cbyte b => cbyteBody b
  | .compute n => computeBody n
  | .fstart => fstartBody
  | .fbyte b => fbyteBody b
  | .verify => verifyBody
  | .decrd => decrdBody
  | .decid => decidBody
  | .transact c r n => startTransaction c r n
  | .rdsens c r n => rdsensBody c r n
  | .rduid c r n => rduidBody c r n

/-- Every meaning is an accept step. -/
theorem exec_eq (i : Instr) (s : State) : exec i s = acceptOp (opcode i) (bodyOf i) s := by cases i <;> rfl

theorem exec_ready {i : Instr} {s : State} (h : s.ready = true) :
    exec i s = .next (bodyOf i (acceptCommon (opcode i) s)) := by rw [exec_eq, acceptOp_ready h]

theorem exec_notReady {i : Instr} {s : State} (h : s.ready = false) : exec i s = .next s := by
  rw [exec_eq, acceptOp_notReady h]

theorem exec_cases {i : Instr} {s t : State} (h : exec i s = .next t) :
    (s.ready = true ∧ t = bodyOf i (acceptCommon (opcode i) s)) ∨ (s.ready = false ∧ t = s) :=
  acceptOp_cases (exec_eq i s ▸ h)

/-! ### Presenting a word -/

theorem presentWord_ok {w : Word32} {i : Instr} {s : State} (h : decode w = .ok i) : presentWord w s = exec i s := by
  simp [presentWord, h]

theorem presentWord_error {w : Word32} {e : DecodeError} {s : State} (h : decode w = .error e) :
    presentWord w s = acceptOp (unpack w).opc (raiseFault .illegalOp) s := by
  simp [presentWord, h, acceptIllegal]

theorem presentWord_notReady {w : Word32} {s : State} (h : s.ready = false) : presentWord w s = .next s := by
  cases hd : decode w with
  | ok i => rw [presentWord_ok hd, exec_notReady h]
  | error e => rw [presentWord_error hd, acceptOp_notReady h]

/-- Everything a presented word can do. -/
theorem presentWord_cases {w : Word32} {s t : State} (h : presentWord w s = .next t) :
    (s.ready = false ∧ t = s) ∨
    (∃ i, s.ready = true ∧ decode w = .ok i ∧ t = bodyOf i (acceptCommon (opcode i) s)) ∨
    (∃ e, s.ready = true ∧ decode w = .error e ∧ t = raiseFault .illegalOp (acceptCommon (unpack w).opc s)) := by
  cases hd : decode w with
  | ok i =>
    rw [presentWord_ok hd] at h
    rcases exec_cases h with ⟨hr, ht⟩ | ⟨hr, ht⟩
    · exact .inr (.inl ⟨i, hr, rfl, ht⟩)
    · exact .inl ⟨hr, ht⟩
  | error e =>
    rw [presentWord_error hd] at h
    rcases acceptOp_cases h with ⟨hr, ht⟩ | ⟨hr, ht⟩
    · exact .inr (.inr ⟨e, hr, rfl, ht⟩)
    · exact .inl ⟨hr, ht⟩

/-! ### One step -/

theorem nextEvent_cons {s : State} {e : Event} {rest : List Event} (h : s.script = e :: rest) : nextEvent s = e := by
  simp [nextEvent, h]

theorem takeChoice_cons {s : State} {e : Event} {rest : List Event} (h : s.script = e :: rest) :
    takeChoice s = { s with script := rest } := by simp [takeChoice, h]

theorem step_cons {s : State} {e : Event} {rest : List Event} (h : s.script = e :: rest) :
    step s = takeEvent e { s with script := rest } := by
  rw [step, nextEvent_cons h, takeChoice_cons h]

/-- Every event is a step: the machine never stops. -/
theorem takeEvent_next (e : Event) (s : State) : ∃ t, takeEvent e s = .next t := by
  cases e with
  | present w =>
    cases hr : s.ready with
    | false => exact ⟨s, presentWord_notReady hr⟩
    | true =>
      cases hd : decode w with
      | ok i => exact ⟨_, (presentWord_ok hd).trans (exec_ready hr)⟩
      | error e => exact ⟨_, (presentWord_error hd).trans (acceptOp_ready hr)⟩
  | _ => exact ⟨_, rfl⟩

theorem step_next (s : State) : ∃ t, step s = .next t := takeEvent_next _ _

/-! ### Runs -/

theorem run_zero (s : State) : run 0 s = .next s := rfl

theorem run_succ {k : Nat} {s t : State} (h : step s = .next t) : run (k + 1) s = run k t := by simp [run, h]

theorem run_next (k : Nat) (s : State) : ∃ t, run k s = .next t := by
  induction k generalizing s with
  | zero => exact ⟨s, rfl⟩
  | succ k ih =>
    obtain ⟨t, ht⟩ := step_next s
    obtain ⟨u, hu⟩ := ih t
    exact ⟨u, by rw [run_succ ht, hu]⟩

theorem run_add {j k : Nat} {s t : State} (h : run j s = .next t) : run (j + k) s = run k t := by
  induction j generalizing s with
  | zero => cases h; rw [Nat.zero_add]
  | succ j ih =>
    obtain ⟨u, hu⟩ := step_next s
    rw [run_succ hu] at h
    rw [Nat.add_right_comm, run_succ hu, ih h]

/-- A property that every step keeps is kept by every run. -/
theorem run_keeps {P : State → Prop} (hP : ∀ s t, P s → step s = .next t → P t) {k : Nat} {s t : State} (hs : P s)
    (h : run k s = .next t) : P t := by
  induction k generalizing s with
  | zero => cases h; exact hs
  | succ k ih =>
    obtain ⟨u, hu⟩ := step_next s
    exact ih (hP s u hs hu) (run_succ hu ▸ h)

/-- The model's own run is the host's. -/
theorem run_eq_core_run (k : Nat) (s : State) : run k s = Host.Core.run Sys2Proof.core k s := by
  induction k generalizing s with
  | zero => rfl
  | succ k ih =>
    obtain ⟨t, ht⟩ := step_next s
    have h' : Sys2Proof.core.step s = .next t := ht
    rw [run_succ ht, ih]
    simp only [Host.Core.run, h']
    rfl

end Sys2Proof.Machine
end

