-- ==== Sys2Proof/Laws/Data.lean ====
section
/-! SUPPORT. The small lemmas of the data functions and of the operation word's layout. -/

namespace Sys2Proof

/-! ### The operation word -/

/-- The bits of a packed word (R60). -/
theorem getLsbD_pack (o : OpWord) (k : Nat) :
    (pack o).getLsbD k =
      if k < 8 then o.c.getLsbD k else if k < 16 then o.b.getLsbD (k - 8)
      else if k < 24 then o.a.getLsbD (k - 16) else o.opc.getLsbD (k - 24) := by
  have h1 := BitVec.getLsbD_append (x := o.opc ++ o.a ++ o.b) (y := o.c) (i := k)
  have h2 := BitVec.getLsbD_append (x := o.opc ++ o.a) (y := o.b) (i := k - 8)
  have h3 := BitVec.getLsbD_append (x := o.opc) (y := o.a) (i := k - 8 - 8)
  rw [show (pack o).getLsbD k = _ from h1, h2, h3]
  simp only [Nat.sub_sub]
  grind

/-- The fields of a packed word are the fields packed. -/
@[simp] theorem unpack_pack (o : OpWord) : unpack (pack o) = o := by
  have field : ∀ (n : Nat) (x : Byte), (∀ k < 8, (pack o).getLsbD (n + k) = x.getLsbD k) →
      (pack o).extractLsb' n 8 = x := by
    intro n x hx
    apply BitVec.eq_of_getLsbD_eq
    intro k hk
    simp [hk, hx k hk]
  cases o
  simp only [unpack, OpWord.mk.injEq]
  refine ⟨field _ _ ?_, field _ _ ?_, field _ _ ?_, field _ _ ?_⟩ <;> intro k hk <;> rw [getLsbD_pack] <;> grind

/-- A word is the packing of its fields. -/
@[simp] theorem pack_unpack (w : Word32) : pack (unpack w) = w := by
  apply BitVec.eq_of_getLsbD_eq
  intro k hk
  rw [getLsbD_pack]
  simp only [unpack, BitVec.getLsbD_extractLsb']
  grind

theorem pack_injective {o p : OpWord} (h : pack o = pack p) : o = p := by
  rw [← unpack_pack o, h, unpack_pack]

/-- Masking a word masks its fields. -/
theorem pack_and (o m : OpWord) : pack o &&& pack m = pack ⟨o.opc &&& m.opc, o.a &&& m.a, o.b &&& m.b, o.c &&& m.c⟩ := by
  apply BitVec.eq_of_getLsbD_eq
  intro k hk
  rw [BitVec.getLsbD_and, getLsbD_pack, getLsbD_pack, getLsbD_pack]
  grind

namespace Machine

/-! ### The parameters -/

@[simp] theorem frameLen_eq : Config.frameLen = 8 := rfl

@[simp] theorem crcLen_eq : Config.crcLen = 2 := rfl

@[simp] theorem wakeFrame_eq : wakeFrame = [] := rfl

/-! ### The checksum -/

@[simp] theorem crc16_nil : crc16 [] = Config.crcInit := rfl

theorem crc16_snoc (bytes : List Byte) (b : Byte) : crc16 (bytes ++ [b]) = crcByte (crc16 bytes) b := by
  simp [crc16]

/-- The checksummed part of a frame, byte by byte. -/
theorem summedPart_eq (f : Frame) : summedPart f = [f[0], f[1], f[2], f[3], f[4], f[5]] := by
  rcases f with ⟨⟨l⟩, h⟩
  match l, h with
  | [_, _, _, _, _, _, _, _], _ => rfl

theorem summedPart_take (f : Frame) : summedPart f = f.toList.take 6 := rfl

theorem frameValid_iff (f : Frame) : frameValid f = true ↔ crc16 (summedPart f) = receivedCrc f := by
  simp [frameValid]

/-! ### Integers from bytes -/

theorem le16_eq_append (lo hi : Byte) : le16 lo hi = hi ++ lo := by
  apply BitVec.eq_of_getLsbD_eq
  intro k hk
  rw [show (hi ++ lo : BitVec 16).getLsbD k = _ from BitVec.getLsbD_append (x := hi) (y := lo) (i := k)]
  simp only [le16, BitVec.getLsbD_or, BitVec.getLsbD_shiftLeft, BitVec.getLsbD_setWidth]
  have : 8 ≤ k → lo.getLsbD k = false := BitVec.getLsbD_of_ge _ _
  grind

theorem be16_eq_le16 (hi lo : Byte) : be16 hi lo = le16 lo hi := rfl

theorem frameOfList_toList (f : Frame) (h : f.toList.length = Config.frameLen) : frameOfList f.toList h = f := by
  rcases f with ⟨⟨l⟩, hl⟩
  rfl

end Machine

end Sys2Proof
end

