-- ==== Sys2Proof/Laws/PerInstr.lean ====
section
/-! SUPPORT. Statements about every operation as a word, one lemma per constructor: its word is legal (R63) and is matched
by its own row of `spec/opcode_table.json` (R62). -/

namespace Sys2Proof.Laws.OpcodeRow

/-- The word of `i` is legal, and its row of the table applies to it. -/
def Statement (i : Instr) : Prop := (fields i).wellFormed = true ∧ encode i &&& rowMask i = rowMatch i

/-- The masks of the table, field by field. -/
theorem mask_all : (0xFFFFFFFF : Word32) = pack ⟨0xFF, 0xFF, 0xFF, 0xFF⟩ := rfl

theorem mask_a : (0xFF00FFFF : Word32) = pack ⟨0xFF, 0, 0xFF, 0xFF⟩ := rfl

theorem mask_abc : (0xFF000000 : Word32) = pack ⟨0xFF, 0, 0, 0⟩ := rfl

theorem byte_and_zero (x : Byte) : x &&& 0 = 0 := BitVec.and_zero

theorem cinit : Statement .cinit := ⟨rfl, rfl⟩

theorem cbyte (b : Byte) : Statement (.cbyte b) :=
  ⟨rfl, by simp only [rowMask, mask_a, encode, fields, opcode, pack_and, byte_and_zero]; rfl⟩

theorem compute (n : Byte) : Statement (.compute n) :=
  ⟨rfl, by simp only [rowMask, mask_a, encode, fields, opcode, pack_and, byte_and_zero]; rfl⟩

theorem fstart : Statement .fstart := ⟨rfl, rfl⟩

theorem fbyte (b : Byte) : Statement (.fbyte b) :=
  ⟨rfl, by simp only [rowMask, mask_a, encode, fields, opcode, pack_and, byte_and_zero]; rfl⟩

theorem verify : Statement .verify := ⟨rfl, rfl⟩

theorem decrd : Statement .decrd := ⟨rfl, rfl⟩

theorem decid : Statement .decid := ⟨rfl, rfl⟩

theorem transact (command registerAddress registerCount : Byte) :
    Statement (.transact command registerAddress registerCount) :=
  ⟨rfl, by simp only [rowMask, mask_abc, encode, fields, opcode, pack_and, byte_and_zero]; rfl⟩

theorem rdsens (command registerAddress registerCount : Byte) :
    Statement (.rdsens command registerAddress registerCount) :=
  ⟨rfl, by simp only [rowMask, mask_abc, encode, fields, opcode, pack_and, byte_and_zero]; rfl⟩

theorem rduid (command registerAddress registerCount : Byte) :
    Statement (.rduid command registerAddress registerCount) :=
  ⟨rfl, by simp only [rowMask, mask_abc, encode, fields, opcode, pack_and, byte_and_zero]; rfl⟩

end Sys2Proof.Laws.OpcodeRow
end

