-- ==== Sys2Proof/Laws/Step.lean ====
section
/-! SUPPORT. Everything one step can do, said once: `StepCase s e t` lists what the event `e` can make of the state `s`,
and `step_cases` says that a step is one of these. Invariants and frames are case splits over it. -/

namespace Sys2Proof.Machine

/-- What the event `e` can make of `s`: nothing, or its row of R110's table with the row's enabling condition. -/
inductive StepCase (s : State) : Event → State → Prop where
  | nothing (e : Event) : StepCase s e s
  | accept (w : Word32) (i : Instr) : s.ready = true → decode w = .ok i →
      StepCase s (.present w) (bodyOf i (acceptCommon (opcode i) s))
  | illegal (w : Word32) (r : DecodeError) : s.ready = true → decode w = .error r →
      StepCase s (.present w) (raiseFault .illegalOp (acceptCommon (unpack w).opc s))
  | wake (a : WriteAnswer) : s.ph = .wake → StepCase s (.wake a) (afterWake a (logCall wakeCall s))
  | command (a : WriteAnswer) : s.ph = .cmdw → StepCase s (.command a) (afterCommand a (logCall (commandCall s) s))
  | settleExit : s.ph = .settle → s.tmr = 0 → StepCase s .settleExit { s with ph := .read }
  | read (a : ReadAnswer) : s.ph = .read → StepCase s (.read a) (afterRead a (logCall readCall s))
  | check : s.ph = .check → StepCase s .check (checkFrame s)
  | decode : s.ph = .decode → StepCase s .decode (deliverFrame s)
  | tick : s.ph = .settle → 0 < s.tmr → StepCase s .tick { s with tmr := s.tmr - 1 }
  | readReg (n : BitVec 5) : StepCase s (.readReg n) (readRegister n s)
  | reset : StepCase s .reset (resetBlock s)

theorem takeEvent_cases {e : Event} {s t : State} (h : takeEvent e s = .next t) : StepCase s e t := by
  cases e with
  | present w =>
    rcases presentWord_cases h with ⟨_, rfl⟩ | ⟨i, hr, hd, rfl⟩ | ⟨r, hr, hd, rfl⟩
    · exact .nothing _
    · exact .accept w i hr hd
    · exact .illegal w r hr hd
  | wake a =>
    cases h
    unfold wakeStep
    split
    · exact .wake a ‹_›
    · exact .nothing _
  | command a =>
    cases h
    unfold commandStep
    split
    · exact .command a ‹_›
    · exact .nothing _
  | settleExit =>
    cases h
    unfold settleExitStep
    split
    · rename_i hc; exact .settleExit hc.1 hc.2
    · exact .nothing _
  | read a =>
    cases h
    unfold readStep
    split
    · exact .read a ‹_›
    · exact .nothing _
  | check =>
    cases h
    unfold checkStep
    split
    · exact .check ‹_›
    · exact .nothing _
  | decode =>
    cases h
    unfold decodeStep
    split
    · exact .decode ‹_›
    · exact .nothing _
  | tick =>
    cases h
    unfold tickStep
    split
    · rename_i hc; exact .tick hc.1 hc.2
    · exact .nothing _
  | readReg n => cases h; exact .readReg n
  | reset => cases h; exact .reset

/-- Everything a step can do: the choice is taken, then its event does one of the listed things. -/
theorem step_cases {s t : State} (h : step s = .next t) : StepCase (takeChoice s) (nextEvent s) t := takeEvent_cases h

/-! ### Behaviours -/

/-- A step of a behaviour takes the outside world's choice. -/
theorem behaviour_step {w : Nat → Event} {σ : Nat → State} (h : Behaviour w σ) (k : Nat) :
    takeEvent (w k) { σ k with script := [] } = .next (σ (k + 1)) := by
  rw [← h k, step_cons (s := (σ k).facing (w k)) rfl]
  rfl

/-- Everything a step of a behaviour can do. -/
theorem behaviour_cases {w : Nat → Event} {σ : Nat → State} (h : Behaviour w σ) (k : Nat) :
    StepCase { σ k with script := [] } (w k) (σ (k + 1)) := takeEvent_cases (behaviour_step h k)

/-- From every state there is a behaviour with the given choices. -/
theorem behaviour_exists (w : Nat → Event) (s : State) : ∃ σ : Nat → State, σ 0 = s ∧ Behaviour w σ := by
  have next : ∀ (k : Nat) (u : State), ∃ t, step (u.facing (w k)) = .next t := fun _ _ => step_next _
  choose f hf using next
  exact ⟨fun k => Nat.rec s f k, rfl, fun k => hf k _⟩

/-! ### The phases, as equations: the step whose event stands first in the script -/

section

variable {s : State} {rest : List Event}

theorem step_present {w : Word32} {i : Instr} (hr : s.ready = true) (hd : decode w = .ok i)
    (hs : s.script = .present w :: rest) :
    step s = .next (bodyOf i (acceptCommon (opcode i) { s with script := rest })) := by
  rw [step_cons hs]
  exact (presentWord_ok hd).trans (exec_ready hr)

theorem step_wake {a : WriteAnswer} (h : s.ph = .wake) (hs : s.script = .wake a :: rest) :
    step s = .next (afterWake a (logCall wakeCall { s with script := rest })) := by
  rw [step_cons hs, takeEvent, wakeStep, if_pos h]

theorem step_command {a : WriteAnswer} (h : s.ph = .cmdw) (hs : s.script = .command a :: rest) :
    step s = .next (afterCommand a (logCall (commandCall s) { s with script := rest })) := by
  rw [step_cons hs, takeEvent, commandStep, if_pos h]
  rfl

theorem step_settleExit (h : s.ph = .settle) (h0 : s.tmr = 0) (hs : s.script = .settleExit :: rest) :
    step s = .next { s with script := rest, ph := .read } := by
  rw [step_cons hs, takeEvent, settleExitStep, if_pos ⟨h, h0⟩]

theorem step_read {a : ReadAnswer} (h : s.ph = .read) (hs : s.script = .read a :: rest) :
    step s = .next (afterRead a (logCall readCall { s with script := rest })) := by
  rw [step_cons hs, takeEvent, readStep, if_pos h]

theorem step_check (h : s.ph = .check) (hs : s.script = .check :: rest) :
    step s = .next (checkFrame { s with script := rest }) := by
  rw [step_cons hs, takeEvent, checkStep, if_pos h]

theorem step_decode (h : s.ph = .decode) (hs : s.script = .decode :: rest) :
    step s = .next (deliverFrame { s with script := rest }) := by
  rw [step_cons hs, takeEvent, decodeStep, if_pos h]

theorem step_tick (h : s.ph = .settle) (h0 : 0 < s.tmr) (hs : s.script = .tick :: rest) :
    step s = .next { s with script := rest, tmr := s.tmr - 1 } := by
  rw [step_cons hs, takeEvent, tickStep, if_pos ⟨h, h0⟩]

theorem step_reset (hs : nextEvent s = .reset) : step s = .next (resetBlock (takeChoice s)) := by
  rw [step, hs, takeEvent]

end

/-- A whole frame read is stored; any other answer raises (R116). -/
theorem afterRead_frame (f : Frame) (s : State) : afterRead (.ok f.toList) s = storeFrame f s := by
  rw [afterRead, dif_pos (by simp), frameOfList_toList]

theorem afterRead_length {bytes : List Byte} (h : bytes.length ≠ 8) (s : State) :
    afterRead (.ok bytes) s = raiseComm .length 0 s := by
  rw [afterRead, dif_neg (by simpa using h)]

/-- TRANSACT ends when its frame is stored (R116). -/
theorem storeFrame_transact (f : Frame) {s : State} (h : s.opr = 0x10) :
    storeFrame f s = { s with fb := f, cnt := 8, fv := true, ph := .idle, done := true } := if_pos h

/-- RDSENS and RDUID go on to CHECK when their frame is stored (R116). -/
theorem storeFrame_composite (f : Frame) {s : State} (h : s.opr ≠ 0x10) :
    storeFrame f s = { s with fb := f, cnt := 8, fv := true, ph := .check } := if_neg h

/-- A valid frame goes on to DECODE (R117). -/
theorem checkFrame_valid {s : State} (h : frameValid s.fb = true) :
    checkFrame s = { s with facc := receivedCrc s.fb, v := true, ph := .decode } := by
  rw [checkFrame, if_pos h, compareFrame, (frameValid_iff _).1 h, h]

/-- An invalid frame ends the operation with cause CHECKSUM (R117). -/
theorem checkFrame_invalid {s : State} (h : frameValid s.fb = false) :
    checkFrame s = raiseComm .checksum 0 { s with facc := crc16 (summedPart s.fb), v := false } := by
  rw [checkFrame, h, if_neg Bool.false_ne_true, compareFrame, h]

theorem deliverFrame_rdsens {s : State} (h : s.opr = 0x11) : deliverFrame s = complete (deliverReading s) := if_pos h

theorem deliverFrame_rduid {s : State} (h : s.opr ≠ 0x11) : deliverFrame s = complete (deliverUid s) := if_neg h

end Sys2Proof.Machine
end

