-- ==== Sys2Proof/Tests/Slice0.lean ====
section
/-! SUPPORT. The model's own tests, and a witness for every statement that has hypotheses.

Expected results are the spec's: the vectors of `95_test_vectors.md`, named in each test, or the examples in the rules.
`field` reads one or more fields of the state an outcome holds. -/

namespace Sys2Proof.Tests

open Sys2Proof.Machine
open Host (Outcome)

/-- What `f` reads of the next state, if there is one. -/
def field {α : Type} (f : State → α) : Outcome State Fault Refusal → Option α
  | .next t => some (f t)
  | .fault _ => none
  | .refused _ => none

/-- Frame F1 of the vectors. -/
def f1 : Frame := #v[0x03, 0x04, 0x01, 0x2C, 0x00, 0xC8, 0x30, 0x4B]

/-- Frame F1a: F1 with its last byte corrupted. -/
def f1a : Frame := #v[0x03, 0x04, 0x01, 0x2C, 0x00, 0xC8, 0x30, 0x4A]

/-- Frame F2 of the vectors. -/
def f2 : Frame := #v[0x03, 0x04, 0x00, 0x00, 0x00, 0x01, 0x30, 0x28]

/-- Reset, but every register the spec leaves unspecified holds a number, so that tests can compute. -/
def start : State :=
  { State.reset with fb := Vector.replicate 8 0, hum := 0, tmp := 0, uid := 0, cmd := 0, raddr := 0, rcnt := 0 }

/-- `start` with a complete frame in the buffer, judged `ok`, as a completed operation leaves it. -/
def holding (f : Frame) (ok : Bool) : State :=
  { start with fb := f, cnt := 8, fv := true, v := ok, facc := if ok then receivedCrc f else 0xFFFF, done := true }

/-- `start` with the first bytes of F1 accumulated. -/
def partway (n : Fin 9) (facc : Word16) : State := { start with fb := f1, cnt := n, facc := facc }

/-- A sequencer operation with this opcode in this phase. -/
def during (opc : Byte) (p : Phase) : State := { start with opr := opc, cmd := 0x03, rcnt := 0x04, ph := p }

/-- A sequencer operation that has read a frame. -/
def afterReading (opc : Byte) (p : Phase) (f : Frame) (ok : Bool) : State :=
  { during opc p with fb := f, cnt := 8, fv := true, v := ok, facc := if ok then receivedCrc f else 0xFFFF }

/-! ## WellFormed refuses what is ill-formed, one term for each check -/

theorem test_wellFormed_accepts : OpWord.wellFormed ⟨0x05, 0x2C, 0, 0⟩ = true := by decide

theorem test_wellFormed_refuses_opcode : OpWord.wellFormed ⟨0x07, 0, 0, 0⟩ = false ∧
    OpWord.opcodeOk ⟨0x07, 0, 0, 0⟩ = false := by decide

theorem test_wellFormed_refuses_a : OpWord.wellFormed ⟨0x06, 1, 0, 0⟩ = false ∧ OpWord.aOk ⟨0x06, 1, 0, 0⟩ = false := by
  decide

theorem test_wellFormed_refuses_b : OpWord.wellFormed ⟨0x01, 0, 1, 0⟩ = false ∧ OpWord.bOk ⟨0x01, 0, 1, 0⟩ = false := by
  decide

theorem test_wellFormed_refuses_c : OpWord.wellFormed ⟨0x03, 6, 0, 1⟩ = false ∧ OpWord.cOk ⟨0x03, 6, 0, 1⟩ = false := by
  decide

/-! ## Decoding: every constructor, from the opcode and operand bytes of R61 -/

theorem test_decode_cinit : decode 0b00000001_00000000_00000000_00000000 = .ok .cinit := by decide

theorem test_decode_cbyte : decode 0b00000010_00000011_00000000_00000000 = .ok (.cbyte 0x03) := by decide

theorem test_decode_compute : decode 0b00000011_00000110_00000000_00000000 = .ok (.compute 6) := by decide

theorem test_decode_fstart : decode 0b00000100_00000000_00000000_00000000 = .ok .fstart := by decide

/-- R69: the encoding of `FBYTE 0x2C` is 0x052C0000. -/
theorem test_decode_fbyte : decode 0b00000101_00101100_00000000_00000000 = .ok (.fbyte 0x2C) := by decide

/-- R69: the encoding of `VERIFY` is 0x06000000. -/
theorem test_decode_verify : decode 0b00000110_00000000_00000000_00000000 = .ok .verify := by decide

theorem test_decode_decrd : decode 0b00001000_00000000_00000000_00000000 = .ok .decrd := by decide

theorem test_decode_decid : decode 0b00001001_00000000_00000000_00000000 = .ok .decid := by decide

/-- R69: the encoding of `TRANSACT 0x03, 0x00, 0x04` is 0x10030004. -/
theorem test_decode_transact : decode 0b00010000_00000011_00000000_00000100 = .ok (.transact 0x03 0x00 0x04) := by decide

/-- T2: `RDSENS 0x03, 0x00, 0x04` is 0x11030004. -/
theorem test_decode_rdsens : decode 0b00010001_00000011_00000000_00000100 = .ok (.rdsens 0x03 0x00 0x04) := by decide

/-- T3: `RDUID 0x03, 0x0B, 0x04` is 0x12030B04. -/
theorem test_decode_rduid : decode 0b00010010_00000011_00001011_00000100 = .ok (.rduid 0x03 0x0B 0x04) := by decide

/-- X1 to X5: illegal words, by the name of the check they fail. -/
theorem test_decode_illegal : decode 0x00000000 = .error .unknownOpcode ∧ decode 0x07000000 = .error .unknownOpcode ∧
    decode 0x01000100 = .error .nonzeroB ∧ decode 0xFFFFFFFF = .error .unknownOpcode ∧
    decode 0x13030004 = .error .unknownOpcode := by decide

theorem test_decodeTableWord : decodeTableWord 32 0x12030B04 = some (.rduid 0x03 0x0B 0x04) ∧
    decodeTableWord 32 0x07000000 = none := by decide

/-- The very next step runs the word placed, from reset. -/
theorem test_withFetchWord (s : State) :
    step (s.withFetchWord 32 0x02030000) = exec (.cbyte 0x03) { s with ph := .idle, fault := false } := by rfl

/-! ## The data functions -/

/-- B7 and B8. -/
theorem test_crcByte : crcByte 0xFFFF 0x03 = 0x41FF ∧ crcByte 0x1234 0x56 = 0xE993 := by decide

/-- V1, V10 and V11. -/
theorem test_crc16 : crc16 [] = 0xFFFF ∧ crc16 [0x03, 0x04, 0x01, 0x2C, 0x00, 0xC8] = 0x4B30 ∧
    crc16 f1.toList = 0x0000 := by decide +kernel

/-- F1 is valid; F1a and F1b (checksum bytes swapped) are not. -/
theorem test_frameValid : frameValid f1 = true ∧ frameValid f1a = false ∧
    frameValid #v[0x03, 0x04, 0x01, 0x2C, 0x00, 0xC8, 0x4B, 0x30] = false := by decide +kernel

/-- S1 and S2: the document's own examples. -/
theorem test_decoders : decodeReading 0x01 0x2C 0x00 0xC8 = ⟨200, 300⟩ ∧ decodeUid 0x00 0x00 0x00 0x01 = 1 := by decide

/-- F3: raw temperature 32869 is 3286.9, bit 15 is magnitude (R103). -/
theorem test_scaled : (scaledInt (be16 0x80 0x65), scaledTenths (be16 0x80 0x65)) = (3286, 9) := by decide

/-! ## One step of each operation -/

/-- O2. -/
theorem test_cinit : field (fun t => (t.acc, t.opr, t.status)) (exec .cinit { start with acc := 0x1234 }) =
    some (0xFFFF, 0x01, 0x002) := by decide

/-- O3. -/
theorem test_cbyte : field (fun t => (t.acc, t.facc, t.status)) (exec (.cbyte 0x03) start) =
    some (0x41FF, 0xFFFF, 0x002) := by decide

/-- O4. -/
theorem test_cbyte_continues : field State.acc (exec (.cbyte 0x04) { start with acc := 0x41FF }) = some 0x8300 := by decide

/-- O7. -/
theorem test_compute : field State.acc (exec (.compute 6) (holding f1 true)) = some 0x4B30 := by decide +kernel

/-- O10: beyond `CNT` is the sticky fault INVARIANT. -/
theorem test_compute_faults : field (fun t => (t.status, t.errinfo, t.acc)) (exec (.compute 9) (holding f1 false)) =
    some (0x056, 0x000004, 0xFFFF) := by decide

/-- O12. -/
theorem test_fstart : field (fun t => (t.cnt, t.facc, t.status)) (exec .fstart { holding f1 true with rv := true }) =
    some (0, 0xFFFF, 0x102) := by decide

/-- O15. -/
theorem test_fbyte_last : field (fun t => (t.fb, t.status)) (exec (.fbyte 0x4B) (partway 7 0x4B30)) =
    some (f1, 0x0C2) := by decide

/-- O17: a ninth byte. -/
theorem test_fbyte_ninth : field (fun t => (t.status, t.errinfo, t.cnt)) (exec (.fbyte 0x00) (holding f1 true)) =
    some (0x00E, 0x000002, 8) := by decide

/-- O20: a false verdict is no error. -/
theorem test_verify : field (fun t => (t.facc, t.rxcrc, t.status)) (exec .verify (holding f1a false)) =
    some (0x4B30, 0x4A30, 0x042) := by decide +kernel

/-- O21. -/
theorem test_verify_faults : field (fun t => (t.status, t.errinfo)) (exec .verify start) = some (0x016, 0x000004) := by
  decide

/-- D1v. -/
theorem test_decrd : field (fun t => (t.hum, t.tmp, t.status)) (exec .decrd (holding f1 true)) =
    some (0x012C, 0x00C8, 0x1C2) := by decide

/-- D9v: an invalid frame is never decoded. -/
theorem test_decrd_faults : field (fun t => (t.rv, t.errinfo)) (exec .decrd (holding f1a false)) =
    some (false, 0x000004) := by decide

/-- D2v. -/
theorem test_decid : field (fun t => (t.uid, t.status)) (exec .decid (holding f2 true)) = some (1, 0x2C2) := by decide

/-- D8v. -/
theorem test_decid_faults : field (fun t => (t.uv, t.status)) (exec .decid (holding f1 false)) =
    some (false, 0x056) := by decide

/-- T1, the accept step: the operands are latched, the port is busy. -/
theorem test_transact : field (fun t => (t.operands, t.ph, t.status, t.fv)) (exec (.transact 0x03 0x00 0x04)
    (holding f1 true)) = some (0x10030004, .wake, 0x001, false) := by decide

/-- T14, the accept step: the old reading is invalidated, not erased. -/
theorem test_rdsens : field (fun t => (t.rv, t.hum)) (exec (.rdsens 0x03 0x00 0x04)
    { holding f1 true with rv := true, hum := 300 }) = some (false, 300) := by decide

/-- T15, the accept step: RDUID leaves the reading. -/
theorem test_rduid : field (fun t => (t.rv, t.uv)) (exec (.rduid 0x03 0x0B 0x04)
    { holding f1 true with rv := true, uv := true }) = some (true, false) := by decide

/-- X3: an illegal word on a ready port. -/
theorem test_illegal : field (fun t => (t.opr, t.status, t.errinfo)) (presentWord 0x01000100 start) =
    some (0x01, 0x016, 0x000005) := by decide

/-! ## One step of each phase, from the trace of T4 and the end states of T3, T6, T9 and T12 -/

theorem test_wake : field (fun t => (t.ph, t.status, t.errinfo)) (takeEvent (.wake (.err 0x06)) (during 0x11 .wake)) =
    some (.cmdw, 0x021, 0x060000) := by decide

/-- T6: both failures are in ERRINFO. -/
theorem test_command : field (fun t => (t.ready, t.status, t.errinfo)) (takeEvent (.command (.err 0x22))
    { during 0x10 .cmdw with wf := true, wdesc := 0x11 }) = some (true, 0x02E, 0x112221) := by decide

theorem test_settleExit_waits : field State.ph (takeEvent .settleExit { during 0x11 .settle with tmr := 1 }) =
    some .settle := by decide

/-- T9: seven bytes are LENGTH and store nothing. -/
theorem test_read_length : field (fun t => (t.errinfo, t.cnt, t.fv)) (takeEvent
    (.read (.ok [0x03, 0x04, 0x01, 0x2C, 0x00, 0xC8, 0x30])) (during 0x10 .read)) = some (0x000042, 0, false) := by decide

/-- T1's end. -/
theorem test_read : field (fun t => (t.fb, t.ph, t.status)) (takeEvent (.read (.ok f1.toList)) (during 0x10 .read)) =
    some (f1, .idle, 0x042) := by decide

/-- T12: the checksum error. -/
theorem test_check : field (fun t => (t.facc, t.status, t.errinfo)) (takeEvent .check
    (afterReading 0x11 .check f1a false)) = some (0x4B30, 0x04E, 0x000053) := by decide +kernel

/-- T3's end. -/
theorem test_decode : field (fun t => (t.uid, t.status)) (takeEvent .decode (afterReading 0x12 .decode f2 true)) =
    some (1, 0x2C2) := by decide

theorem test_tick : field State.tmr (takeEvent .tick { during 0x11 .settle with tmr := 3 }) = some 2 := by decide

/-- R24: a register read answers and changes nothing of the block. -/
theorem test_readReg : field (fun t => t.reads) (takeEvent (.readReg 0x08) { start with hum := 300, rv := true }) =
    some [(0x08, 30)] := by decide

/-- R27, R170. -/
theorem test_reset : field (fun t => (t.ready, t.acc, t.status, t.errinfo)) (takeEvent .reset
    { during 0x11 .settle with fault := true, acc := 0 }) = some (true, 0xFFFF, 0, 0) := by decide

/-! ## Witnesses: for each statement with hypotheses, a concrete state and operands that meet them, clause by clause -/

/-- An outcome of which a field can be read is a next state with that field. -/
theorem field_some {α : Type} {f : State → α} {o : Outcome State Fault Refusal} {x : α} (h : field f o = some x) :
    ∃ t, o = .next t ∧ f t = x := by
  cases o with
  | next t => exact ⟨t, rfl, by simpa [field] using h⟩
  | fault r => simp [field] at h
  | refused r => simp [field] at h

/-- `start` with a script. -/
def scripted (s : State) (script : List Event) : State := { s with script := script }

/-- A state after the sticky fault INVARIANT. -/
def faulted : State := { start with opr := 0x06, done := true, err := true, fault := true, cause := .invariant }

theorem inv_start : start.Inv := by
  refine ⟨⟨?_, ?_, ?_, ?_, ?_, ?_, ?_, ?_, ?_, ?_, ?_, ?_⟩, ?_, ?_⟩ <;> decide +kernel

theorem inv_holding : (holding f1 true).Inv := by
  refine ⟨⟨?_, ?_, ?_, ?_, ?_, ?_, ?_, ?_, ?_, ?_, ?_, ?_⟩, ?_, ?_⟩ <;> decide +kernel

theorem inv_faulted : faulted.Inv := by
  refine ⟨⟨?_, ?_, ?_, ?_, ?_, ?_, ?_, ?_, ?_, ?_, ?_, ?_⟩, ?_, ?_⟩ <;> decide +kernel

/-- The script of a state is no part of the invariants. -/
theorem inv_scripted {s : State} (h : s.Inv) (script : List Event) : (scripted s script).Inv :=
  ⟨⟨h.i1, h.i2, h.i3, h.i4, h.i4a, h.i5, h.i6, h.i7, h.i8, h.i9, h.i10, h.i11⟩, h.busEmpty, h.busyOpen⟩

theorem witness_DecodeAndEncodeAgree : decode 0x12030B04 = .ok (.rduid 0x03 0x0B 0x04) := by decide

theorem witness_IllegalWordsRaiseIllegalOp : start.ready = true ∧ (unpack 0x01000100).wellFormed = false := by decide

theorem witness_TableRowsDecideTheWord : (0x052C0000 : Word32) &&& rowMask (.fbyte 0) = rowMatch (.fbyte 0) ∧
    (0x052C0000 : Word32) &&& rowMask (.fbyte 1) = rowMatch (.fbyte 1) := by decide

theorem witness_SingleByteChangeIsDetected : frameValid f1 = true ∧ (0x02 : Byte) ≠ f1[0] ∧ (0x2D : Byte) ≠ f1[3] ∧
    (0x31 : Byte) ≠ f1[6] ∧ (0x4A : Byte) ≠ f1[7] := by decide +kernel

theorem witness_CinitStartsAChecksum : start.ready = true ∧ ((0 : Byte) = 0 ∧ (0 : Byte) = 0 ∧ (0 : Byte) = 0) ∧
    ¬((0 : Byte) = 0 ∧ (1 : Byte) = 0 ∧ (0 : Byte) = 0) := by decide

theorem witness_CbyteAbsorbsAByte : start.ready = true ∧ ((0 : Byte) = 0 ∧ (0 : Byte) = 0) ∧
    ¬((0 : Byte) = 0 ∧ (1 : Byte) = 0) := by decide

/-- `WordMeans` of CINIT, FSTART, VERIFY, DECRD and DECID: fields that stand for the operation, and for each field alone
nonzero, fields that make the word illegal. -/
theorem witness_WordMeans_ABC (zero : Byte → Byte → Byte → Prop) (hz : zero = fun a b c => a = 0 ∧ b = 0 ∧ c = 0) :
    start.ready = true ∧ zero 0 0 0 ∧ ¬zero 1 0 0 ∧ ¬zero 0 1 0 ∧ ¬zero 0 0 1 := by subst hz; decide

/-- `WordMeans` of CBYTE, COMPUTE and FBYTE. -/
theorem witness_WordMeans_BC (zero : Byte → Byte → Byte → Prop) (hz : zero = fun _ b c => b = 0 ∧ c = 0) :
    start.ready = true ∧ zero 1 0 0 ∧ ¬zero 1 1 0 ∧ ¬zero 1 0 1 := by subst hz; decide

/-- At the boundary: `n = CNT`, `n = 0` and `n = CNT + 1`. -/
theorem witness_ComputeSumsTheFirstBytes : (holding f1 true).ready = true ∧ (8 : Byte).toNat ≤ (holding f1 true).cnt.val ∧
    (0 : Byte).toNat ≤ start.cnt.val ∧ start.ready = true ∧ (holding f1 true).cnt.val < (9 : Byte).toNat ∧
    start.cnt.val < (1 : Byte).toNat := by decide

theorem witness_FstartEmptiesTheFrame : (holding f1 true).ready = true := by decide

/-- `CNT` at 0, 5, 6, 7 and 8, on ready ports. -/
theorem witness_FbyteAccumulatesAndCompares :
    ((partway 0 0xFFFF).ready = true ∧ (partway 0 0xFFFF).cnt.val = 0 ∧ 0 < 6) ∧
    ((partway 5 0x302C).ready = true ∧ (partway 5 0x302C).cnt.val = 5 ∧ 5 < 6) ∧
    ((partway 6 0x4B30).ready = true ∧ (partway 6 0x4B30).cnt.val = 6) ∧
    ((partway 7 0x4B30).ready = true ∧ (partway 7 0x4B30).cnt.val = 7) ∧
    ((holding f1 true).ready = true ∧ (holding f1 true).cnt.val = 8) := by decide

theorem witness_VerifyJudgesTheFrame : ((holding f1 true).ready = true ∧ (holding f1 true).fv = true) ∧
    (start.ready = true ∧ start.fv = false) ∧ ∃ t, exec .verify (holding f1 true) = .next t :=
  ⟨by decide, by decide, _, rfl⟩

theorem witness_DecrdDecodesAReading :
    ((holding f1 true).ready = true ∧ (holding f1 true).fv = true ∧ (holding f1 true).v = true) ∧
    ((holding f1a false).ready = true ∧ ((holding f1a false).fv = false ∨ (holding f1a false).v = false)) ∧
    (start.ready = true ∧ (start.fv = false ∨ start.v = false)) := by decide

theorem witness_DecidDecodesAnIdentifier :
    ((holding f2 true).ready = true ∧ (holding f2 true).fv = true ∧ (holding f2 true).v = true) ∧
    ((holding f1 false).ready = true ∧ ((holding f1 false).fv = false ∨ (holding f1 false).v = false)) ∧
    (start.ready = true ∧ (start.fv = false ∨ start.v = false)) := by decide

theorem witness_TransactIsAccepted : (holding f1 true).ready = true := by decide

theorem witness_RdsensIsAccepted : { holding f1 true with rv := true }.ready = true := by decide

theorem witness_RduidIsAccepted : { holding f2 true with uv := true }.ready = true := by decide

theorem witness_ComputeOperationsFrame : (∃ t, exec .cinit start = .next t) ∧ (∃ t, exec (.cbyte 0x03) start = .next t) ∧
    (∃ t, exec (.compute 6) (holding f1 true) = .next t) ∧ ∃ t, exec (.compute 9) (holding f1 true) = .next t :=
  ⟨⟨_, rfl⟩, ⟨_, rfl⟩, ⟨_, rfl⟩, ⟨_, rfl⟩⟩

theorem witness_FrameOperationsFrame : (∃ t, exec .fstart start = .next t) ∧
    (∃ t, exec (.fbyte 0x03) (partway 0 0xFFFF) = .next t) ∧ (∃ t, exec (.fbyte 0x4B) (partway 7 0x4B30) = .next t) ∧
    ∃ t, exec .verify (holding f1 true) = .next t :=
  ⟨⟨_, rfl⟩, ⟨_, rfl⟩, ⟨_, rfl⟩, ⟨_, rfl⟩⟩

theorem witness_DecodeOperationsFrame : (∃ t, exec .decrd (holding f1 true) = .next t) ∧
    ∃ t, exec .decid (holding f2 true) = .next t := ⟨⟨_, rfl⟩, ⟨_, rfl⟩⟩

theorem witness_SequencerAcceptFrame : isSequencer (.transact 3 0 4) = true ∧ isSequencer (.rdsens 3 0 4) = true ∧
    isSequencer (.rduid 3 0 4) = true ∧ (∃ t, exec (.transact 3 0 4) start = .next t) ∧
    (∃ t, exec (.rdsens 3 0 4) start = .next t) ∧ ∃ t, exec (.rduid 3 0 4) start = .next t :=
  ⟨rfl, rfl, rfl, ⟨_, rfl⟩, ⟨_, rfl⟩, ⟨_, rfl⟩⟩

theorem witness_PortNotReadyTakesNothing :
    ((scripted faulted [.present 0x01000000]).ready = false ∧
      (scripted faulted [.present 0x01000000]).script = .present 0x01000000 :: []) ∧
    (scripted (during 0x10 .read) [.present 0x01000000]).ready = false := by decide

theorem witness_StepRunsTheDecodedOperation :
    (scripted start [.present 0x02030000]).script = .present 0x02030000 :: [] ∧
    decode 0x02030000 = .ok (.cbyte 0x03) := by decide

/-- One state for each kind of step that can be disabled. -/
theorem witness_DisabledStepsChangeNothing :
    faulted.ready = false ∧ start.ph ≠ .wake ∧ start.ph ≠ .cmdw ∧ (start.ph ≠ .settle ∨ start.tmr ≠ 0) ∧
    ({ during 0x10 .settle with tmr := 1 }.ph ≠ .settle ∨ { during 0x10 .settle with tmr := 1 }.tmr ≠ 0) ∧
    start.ph ≠ .read ∧ start.ph ≠ .check ∧ start.ph ≠ .decode ∧
    ((during 0x10 .settle).ph ≠ .settle ∨ (during 0x10 .settle).tmr = 0) ∧
    (scripted start [.wake .ok]).script = .wake .ok :: [] := by decide

theorem witness_WakeStepGoesOn : (scripted (during 0x10 .wake) [.wake .ok]).ph = .wake ∧
    (scripted (during 0x10 .wake) [.wake .ok]).script = .wake .ok :: [] ∧
    (scripted (during 0x10 .wake) [.wake (.err 6)]).script = .wake (.err 6) :: [] := by decide

theorem witness_CommandStepStartsTheSettleDelay : (scripted (during 0x10 .cmdw) [.command .ok]).ph = .cmdw ∧
    (scripted (during 0x10 .cmdw) [.command .ok]).script = .command .ok :: [] ∧
    (scripted (during 0x10 .cmdw) [.command (.err 9)]).script = .command (.err 9) :: [] := by decide

/-- Settle-exit at `TMR` 0 and 1; a tick and a presented word during SETTLE. -/
theorem witness_SettlePhaseOnlyWaits : (scripted (during 0x10 .settle) [.settleExit]).ph = .settle ∧
    (scripted (during 0x10 .settle) [.settleExit]).script = .settleExit :: [] ∧
    (scripted { during 0x10 .settle with tmr := 1 } [.settleExit]).ph = .settle ∧
    (scripted (during 0x10 .settle) [.present 0x01000000]).script = .present 0x01000000 :: [] ∧
    Event.present 0x01000000 ≠ .reset ∧ (∀ n, Event.present 0x01000000 ≠ .readReg n) ∧
    Event.tick ≠ .reset ∧ (∀ n, Event.tick ≠ .readReg n) :=
  ⟨rfl, rfl, rfl, rfl, by decide, fun _ => nofun, by decide, fun _ => nofun⟩

/-- Each clause, with lengths 0, 7 and 9. -/
theorem witness_ReadStepStoresAFrameOrRaises : (during 0x10 .read).ph = .read ∧ (during 0x11 .read).ph = .read ∧
    (scripted (during 0x10 .read) [.read (.err 5)]).script = .read (.err 5) :: [] ∧
    ([] : List Byte).length ≠ 8 ∧ (f1.toList.take 7).length ≠ 8 ∧ (f1.toList ++ [0]).length ≠ 8 ∧
    (scripted (during 0x10 .read) [.read (.ok [])]).script = .read (.ok []) :: [] ∧ (during 0x10 .read).opr = 0x10 ∧
    (during 0x11 .read).opr ≠ 0x10 ∧
    (scripted (during 0x11 .read) [.read (.ok f1.toList)]).script = .read (.ok f1.toList) :: [] := by decide

theorem witness_CheckStepValidatesTheFrame :
    (afterReading 0x11 .check f1 false).ph = .check ∧
    (scripted (afterReading 0x11 .check f1 false) [.check]).script = .check :: [] ∧
    crc16 [f1[0], f1[1], f1[2], f1[3], f1[4], f1[5]] = le16 f1[6] f1[7] ∧
    (afterReading 0x11 .check f1a false).ph = .check ∧
    crc16 [f1a[0], f1a[1], f1a[2], f1a[3], f1a[4], f1a[5]] ≠ le16 f1a[6] f1a[7] := by decide +kernel

theorem witness_DecodeStepDeliversTheValue : (afterReading 0x11 .decode f1 true).ph = .decode ∧
    (scripted (afterReading 0x11 .decode f1 true) [.decode]).script = .decode :: [] ∧
    (afterReading 0x11 .decode f1 true).opr = 0x11 ∧ (afterReading 0x12 .decode f2 true).ph = .decode ∧
    (afterReading 0x12 .decode f2 true).opr = 0x12 := by decide

/-- `TMR` 1 and 0xFFFF in SETTLE; `TMR` 0 in SETTLE; outside SETTLE. -/
theorem witness_TickCountsTheSettleTimerDown : (scripted start [.tick]).script = .tick :: [] ∧
    ({ during 0x10 .settle with tmr := 1 }.ph = .settle ∧ { during 0x10 .settle with tmr := 1 }.tmr ≠ 0) ∧
    ({ during 0x10 .settle with tmr := 0xFFFF }.ph = .settle ∧ { during 0x10 .settle with tmr := 0xFFFF }.tmr ≠ 0) ∧
    ¬((during 0x10 .settle).ph = .settle ∧ (during 0x10 .settle).tmr ≠ 0) ∧
    ¬(start.ph = .settle ∧ start.tmr ≠ 0) := by decide

/-- A step along an arrow from a state with the invariants, and one state for each arrow. -/
theorem witness_PhaseGraphIsComplete :
    ((scripted start [.present 0x10030004]).Inv ∧
      ∃ t, step (scripted start [.present 0x10030004]) = .next t ∧ t.ph ≠ (scripted start [.present 0x10030004]).ph) ∧
    PhaseArrow start (.present 0x10030004) .wake ∧ PhaseArrow (during 0x10 .wake) (.wake (.err 6)) .cmdw ∧
    PhaseArrow (during 0x10 .cmdw) (.command .ok) .settle ∧ PhaseArrow (during 0x10 .cmdw) (.command (.err 9)) .idle ∧
    PhaseArrow (during 0x10 .settle) .settleExit .read ∧
    PhaseArrow (during 0x10 .read) (.read (.ok f1.toList)) .idle ∧
    PhaseArrow (during 0x12 .read) (.read (.ok f1.toList)) .check ∧
    PhaseArrow (during 0x10 .read) (.read (.ok [])) .idle ∧ PhaseArrow (during 0x10 .read) (.read (.err 5)) .idle ∧
    PhaseArrow (afterReading 0x11 .check f1 false) .check .decode ∧
    PhaseArrow (afterReading 0x11 .check f1a false) .check .idle ∧
    PhaseArrow (afterReading 0x11 .decode f1 true) .decode .idle ∧ PhaseArrow (during 0x10 .settle) .reset .idle :=
  ⟨⟨inv_scripted inv_start _, _, rfl, by decide⟩,
    .accept _ (.transact 3 0 4) rfl rfl (by decide) rfl, .wakeDone _ rfl, .commandOk rfl, .commandErr _ rfl,
    .settled rfl rfl, .readEnds _ rfl rfl rfl, .readGoesOn _ rfl rfl (.inr rfl), .readLength _ rfl (by decide),
    .readErr _ rfl, .checkEqual rfl (by decide +kernel), .checkDiffers rfl (by decide +kernel), .decoded rfl,
    .reset (by decide)⟩

theorem witness_OperationsOnlyMoveForward : (scripted (during 0x10 .wake) [.tick]).ph ≠ .idle ∧
    nextEvent (scripted (during 0x10 .wake) [.tick]) ≠ .reset ∧
    ∃ t, step (scripted (during 0x10 .wake) [.tick]) = .next t := ⟨by decide, by decide, _, rfl⟩

/-- The wake write answered, the command write refused, then ticks for ever. -/
def refusedCommand : Nat → Event
  | 0 => .wake .ok
  | 1 => .command (.err 9)
  | _ + 2 => .tick

/-- Both clauses; the fair behaviour is the one with the choices of `refusedCommand`. -/
theorem witness_EveryOperationCanEnd : (during 0x10 .wake).ph ≠ .idle ∧ (during 0x11 .decode).ph ≠ .idle ∧
    ∃ σ : Nat → State, Behaviour refusedCommand σ ∧ Fair refusedCommand σ ∧ (σ 0).ph ≠ .idle := by
  obtain ⟨σ, h0, hb⟩ := behaviour_exists refusedCommand (during 0x10 .wake)
  have h1 : (σ 1).ph = .cmdw := by
    have h := behaviour_step hb 0
    rw [h0] at h
    rw [← Outcome.next.inj h]
    rfl
  have h2 : (σ 2).ph = .idle := by
    have h := behaviour_step hb 1
    simp only [refusedCommand, takeEvent, commandStep, h1, if_true] at h
    rw [← Outcome.next.inj h]
    rfl
  have later : ∀ k, (σ (k + 2)).ph = .idle := by
    intro k
    induction k with
    | zero => exact h2
    | succ k ih =>
      have hc := behaviour_cases hb (k + 2)
      change (σ (k + 2 + 1)).ph = .idle
      generalize σ (k + 2 + 1) = u at hc
      cases hc with
      | nothing => exact ih
      | tick h _ => exact absurd (ih.symm.trans h) (by decide)
  refine ⟨by decide, by decide, σ, hb, ⟨fun p k h => ?_, fun k h => ?_⟩, by rw [h0]; decide⟩
  · have := h (k + 2) (by omega)
    cases p <;> simp [State.engineEnabled, later] at this
  · exact absurd ((later k).symm.trans (h (k + 2) (by omega))) (by decide)

/-- Two ticks of 2000 microseconds, then the exit; both clauses. -/
theorem witness_SettleDelayIsALowerBound :
    (scripted { during 0x10 .settle with tmr := 2 } [.tick, .tick, .settleExit]).ph = .settle ∧
    3 ≤ (scripted { during 0x10 .settle with tmr := 2 } [.tick, .tick, .settleExit]).script.length ∧
    Event.reset ∉ (scripted { during 0x10 .settle with tmr := 2 } [.tick, .tick, .settleExit]).script.take 3 ∧
    (∃ t, run 3 (scripted { during 0x10 .settle with tmr := 2 } [.tick, .tick, .settleExit]) = .next t ∧
      t.ph ≠ .settle) ∧
    settleMargin (2 : Word16).toNat 2000 = true := ⟨rfl, by decide, by decide, ⟨_, rfl, by decide⟩, by decide⟩

theorem witness_BusCallsOfAStep : ∃ t, step (scripted (during 0x10 .wake) [.wake .ok]) = .next t := ⟨_, rfl⟩

theorem witness_OneTransactionsBusTraffic : (scripted (during 0x10 .wake) [.wake .ok]).ph = .wake ∧
    (∃ t, run 1 (scripted (during 0x10 .wake) [.wake .ok]) = .next t) ∧
    ∀ (j : Nat) (u : State), j < 1 → run j (scripted (during 0x10 .wake) [.wake .ok]) = .next u → u.ph ≠ .idle := by
  refine ⟨rfl, ⟨_, rfl⟩, fun j u hj h => ?_⟩
  obtain rfl : j = 0 := by omega
  cases h
  decide

theorem witness_TransactDeliversTheRawFrame : start.ready = true ∧
    (scripted start (.present (encode (.transact 3 0 4)) :: transactionScript .ok (.ok f1.toList) ++ [])).script =
      .present (encode (.transact 3 0 4)) :: transactionScript .ok (.ok f1.toList) ++ [] := ⟨by decide, rfl⟩

theorem witness_RdsensReadsASensor : start.ready = true ∧ frameValid f1 = true ∧ frameValid f1a = false ∧
    (scripted start (.present (encode (.rdsens 3 0 4)) :: transactionScript (.err 6) (.ok f1.toList) ++
      .check :: .decode :: [])).script =
      .present (encode (.rdsens 3 0 4)) :: transactionScript (.err 6) (.ok f1.toList) ++ .check :: .decode :: [] ∧
    (scripted start (.present (encode (.rdsens 3 0 4)) :: transactionScript .ok (.ok f1a.toList) ++ .check :: [])).script =
      .present (encode (.rdsens 3 0 4)) :: transactionScript .ok (.ok f1a.toList) ++ .check :: [] :=
  ⟨by decide, by decide +kernel, by decide +kernel, rfl, rfl⟩

theorem witness_RduidReadsAnIdentifier : start.ready = true ∧ frameValid f2 = true ∧ frameValid f1a = false ∧
    (scripted start (.present (encode (.rduid 3 11 4)) :: transactionScript .ok (.ok f2.toList) ++
      .check :: .decode :: [])).script =
      .present (encode (.rduid 3 11 4)) :: transactionScript .ok (.ok f2.toList) ++ .check :: .decode :: [] ∧
    (scripted start (.present (encode (.rduid 3 11 4)) :: transactionScript .ok (.ok f1a.toList) ++ .check :: [])).script =
      .present (encode (.rduid 3 11 4)) :: transactionScript .ok (.ok f1a.toList) ++ .check :: [] :=
  ⟨by decide, by decide +kernel, by decide +kernel, rfl, rfl⟩

theorem witness_WakeFailureIsSurfaced : (during 0x10 .wake).ph = .wake ∧ (during 0x10 .wake).wf = false ∧
    (during 0x10 .wake).wdesc = 0 ∧
    (scripted (during 0x10 .wake) [.wake (.err 6), .command .ok]).script = .wake (.err 6) :: .command .ok :: [] ∧
    (scripted (during 0x10 .wake) [.wake (.err 6), .command (.err 9)]).script =
      .wake (.err 6) :: .command (.err 9) :: [] := by decide

theorem witness_TransactionFailuresAreReported : start.ready = true ∧
    (scripted start (.present (encode (.rduid 3 11 4)) :: .wake .ok :: .command (.err 9) :: [])).script =
      .present (encode (.rduid 3 11 4)) :: .wake .ok :: .command (.err 9) :: [] ∧
    (scripted start (.present (encode (.rdsens 3 0 4)) :: transactionScript .ok (.err 5) ++ [])).script =
      .present (encode (.rdsens 3 0 4)) :: transactionScript .ok (.err 5) ++ [] ∧
    (f1.toList.take 7).length ≠ 8 ∧
    (scripted start (.present (encode (.transact 3 0 4)) :: transactionScript .ok (.ok (f1.toList.take 7)) ++ [])).script =
      .present (encode (.transact 3 0 4)) :: transactionScript .ok (.ok (f1.toList.take 7)) ++ [] :=
  ⟨by decide, rfl, rfl, by decide, rfl⟩

/-- F1 by eight FBYTE with a CBYTE and a COMPUTE in between. -/
def accumulation : List Instr :=
  [.fbyte 0x03, .fbyte 0x04, .cbyte 0x7F, .fbyte 0x01, .fbyte 0x2C, .compute 2, .fbyte 0x00, .fbyte 0xC8, .fbyte 0x30,
    .fbyte 0x4B]

theorem witness_FrameAccumulationJudgesTheFrame : start.ready = true ∧
    (∀ i ∈ accumulation, isSequencer i = false ∧ i ≠ .fstart) ∧ fbytes accumulation = f1.toList ∧
    ∃ t, runOps (.fstart :: accumulation) start = .next t ∧ t.fault = false :=
  ⟨by decide, by decide, by decide, field_some (f := State.fault) (by decide +kernel)⟩

theorem witness_ComputeStreamSumsItsBytes : start.ready = true ∧
    (∀ i ∈ [Instr.cbyte 0x03, .fbyte 0x55, .cbyte 0x04], isSequencer i = false ∧ i ≠ .cinit ∧ ∀ n, i ≠ .compute n) ∧
    ∃ t, runOps (.cinit :: [.cbyte 0x03, .fbyte 0x55, .cbyte 0x04]) start = .next t ∧ t.fault = false := by
  refine ⟨by decide, ?_, field_some (f := State.fault) (by decide +kernel)⟩
  simp [isSequencer]

theorem witness_FaultExactlyOnMisuse : start.ready = true ∧ (∃ t, presentWord 0x06000000 start = .next t) ∧
    (∃ t, presentWord 0x04000000 start = .next t) ∧ ∃ t, presentWord 0x00000000 start = .next t :=
  ⟨by decide, ⟨_, rfl⟩, ⟨_, rfl⟩, ⟨_, rfl⟩⟩

theorem witness_ProperHostsStaySafe : (scripted start [.present 0x03000000]).safe = true ∧
    (∀ w, nextEvent (scripted start [.present 0x03000000]) = .present w →
      hostProper w (scripted start [.present 0x03000000]) = true) ∧
    ∃ t, step (scripted start [.present 0x03000000]) = .next t := by
  refine ⟨by decide, fun w h => ?_, _, rfl⟩
  cases h
  decide

theorem witness_FaultIsStickyUntilReset : (scripted faulted [.present 0x01000000]).fault = true ∧
    (scripted faulted [.present 0x01000000]).ph = .idle ∧
    nextEvent (scripted faulted [.present 0x01000000]) ≠ .reset ∧
    ∃ t, step (scripted faulted [.present 0x01000000]) = .next t := ⟨rfl, rfl, by decide, _, rfl⟩

/-- A tick, a word presented after a fault, and a local operation. -/
theorem witness_ErrorReportStandsUntilAccept : (scripted start [.tick]).ph = .idle ∧
    nextEvent (scripted start [.tick]) ≠ .reset ∧ (∃ t, step (scripted start [.tick]) = .next t) ∧
    (∀ w, nextEvent (scripted start [.tick]) ≠ .present w) ∧ faulted.fault = true ∧
    ∀ w i, nextEvent (scripted start [.present 0x01000000]) = .present w → decode w = .ok i → isSequencer i = false := by
  refine ⟨rfl, by decide, ⟨_, rfl⟩, fun w => nofun, rfl, fun w i hw hi => ?_⟩
  cases hw
  obtain rfl : Instr.cinit = i := Except.ok.inj ((show decode 0x01000000 = .ok .cinit by decide).symm.trans hi)
  rfl

/-- DECRD on F1 changes `HUM` and sets `RV`; DECID changes `UID`. -/
theorem witness_NoValueFromAnInvalidFrame :
    ((scripted (holding f1 true) [.present 0x08000000]).Inv ∧
      nextEvent (scripted (holding f1 true) [.present 0x08000000]) ≠ .reset ∧
      ∃ t, step (scripted (holding f1 true) [.present 0x08000000]) = .next t ∧ t.hum ≠ start.hum ∧ t.rv = true) ∧
    ∃ t, step (scripted (holding f1 true) [.present 0x09000000]) = .next t ∧ t.uid ≠ start.uid :=
  ⟨⟨inv_scripted inv_holding _, by decide, _, rfl, by decide, by decide⟩, _, rfl, by decide⟩

theorem witness_StepKeepsTheInvariants : (scripted (holding f1 true) [.present 0x08000000]).Inv ∧
    ∃ t, step (scripted (holding f1 true) [.present 0x08000000]) = .next t := ⟨inv_scripted inv_holding _, _, rfl⟩

theorem witness_ReachableStatesHaveTheInvariants :
    ∃ t, run 3 { State.reset with script := [.present 0x10030004, .wake .ok, .command (.err 9)] } = .next t := run_next _ _

theorem witness_ResetLeavesTheResetValues : nextEvent (scripted faulted [.reset]) = .reset := rfl

theorem witness_ErrorClassesAreTold : faulted.Inv ∧ faulted.fault = true := ⟨inv_faulted, rfl⟩

theorem witness_StatusPacksTheFlags : 10 ≤ 31 ∧ 10 ≤ 10 := by decide

/-- The reserved numbers at both ends, and the frame bytes at both ends. -/
theorem witness_ReadPortAnswersWithoutEffect : 0x18 ≤ (0x18 : BitVec 5).toNat ∧ 0x18 ≤ (0x1F : BitVec 5).toNat ∧
    0 < 8 ∧ 7 < 8 ∧ (scripted start [.readReg 0x17]).script = .readReg 0x17 :: [] := by decide

/-- Two different states that agree where the guards say so: an unvalidated reading, bytes beyond `CNT`. -/
theorem witness_UnspecifiedRegistersDoNotMatter :
    (scripted start [.present 0x05030000]).Inv ∧
    AgreeWhereSpecified (scripted start [.present 0x05030000])
      { scripted start [.present 0x05030000] with hum := 7, uid := 9, cmd := 1, fb := f1 } ∧
    scripted start [.present 0x05030000] ≠ { scripted start [.present 0x05030000] with hum := 7, uid := 9, cmd := 1, fb := f1 } ∧
    ∃ t, step (scripted start [.present 0x05030000]) = .next t := by
  refine ⟨inv_scripted inv_start _, ?_, fun h => ?_, _, rfl⟩
  · constructor <;> simp [scripted, start, State.reset]
  · have := congrArg State.hum h
    revert this
    decide

end Sys2Proof.Tests
end

section
/-! PROOFS. The rules of the frame buffer as a list of bytes: what storing a byte does to the bytes before it and to
the two checksums of a frame. -/

namespace Sys2Proof.Machine

/-! ### The frame buffer -/

/-- Storing byte `k` extends the first `k` bytes by it. -/
theorem take_succ_set (f : Frame) (k : Nat) (h : k < 8) (b : Byte) :
    (f.set k b h).toList.take (k + 1) = f.toList.take k ++ [b] := by
  have hlen : k < (f.set k b h).toList.length := by simpa using h
  rw [List.take_succ_eq_append_getElem hlen]
  simp [Vector.toList_set, List.take_set_of_le]

/-- Storing one of the last two bytes leaves the summed part alone. -/
theorem summedPart_set (f : Frame) (k : Nat) (h : k < 8) (hk : 6 ≤ k) (b : Byte) :
    summedPart (f.set k b h) = summedPart f := by
  rw [summedPart_take, Vector.toList_set, List.take_set_of_le hk, summedPart_take]

/-- Storing the last byte completes the received checksum. -/
theorem receivedCrc_set_last (f : Frame) (k : Nat) (h : k < 8) (hk : k = 7) (b : Byte) :
    receivedCrc (f.set k b h) = le16 f[6] b := by
  subst hk
  simp [receivedCrc]

end Sys2Proof.Machine
end

section
/-! PROOFS. The invariants of R30 (O52, O53, O54) and the reset values (O55). `FrameInv` is the invariants' part on the
frame buffer, on the registers it speaks of; `Quiet` is what holds from the accept of an operation to its end. -/

namespace Sys2Proof.Machine

/-! ### The frame buffer's part -/

/-- I2 to I4a of R30. -/
structure FrameInv (fb : Frame) (cnt : Fin 9) (facc : Word16) (fv v : Bool) : Prop where
  full : fv = true → cnt.val = 8
  complete : v = true → fv = true
  valid : v = true → crc16 (summedPart fb) = receivedCrc fb ∧ facc = receivedCrc fb
  running : cnt.val < 8 → facc = crc16 (fb.toList.take (min cnt.val 6))

/-- I2 to I4a of R30 in a state. -/
abbrev State.HasFrameInv (s : State) : Prop := FrameInv s.fb s.cnt s.facc s.fv s.v

/-- An emptied frame buffer (R88, R112, R170). -/
theorem FrameInv.empty (fb : Frame) : FrameInv fb 0 Config.crcInit false false where
  full := nofun
  complete := nofun
  valid := nofun
  running := fun _ => rfl

/-- A full frame buffer whose frame counts as not validated (R89, R116). -/
theorem FrameInv.unvalidated {cnt : Fin 9} (h : cnt.val = 8) (fb : Frame) (facc : Word16) (fv : Bool) :
    FrameInv fb cnt facc fv false where
  full := fun _ => h
  complete := nofun
  valid := nofun
  running := fun hlt => absurd h (Nat.ne_of_lt hlt)

/-- The comparison of R90 and R117 on a complete frame keeps the frame buffer's part. -/
theorem FrameInv.compareFrame {s : State} (h : s.HasFrameInv) (hfv : s.fv = true) : (compareFrame s).HasFrameInv where
  full := h.full
  complete := fun _ => hfv
  valid := fun hv => ⟨(frameValid_iff s.fb).1 hv, (frameValid_iff s.fb).1 hv⟩
  running := fun hlt => absurd (h.full hfv) (Nat.ne_of_lt hlt)

/-- A buffer that is not full holds no complete frame. -/
theorem FrameInv.flags_of_lt {fb : Frame} {cnt : Fin 9} {facc : Word16} {fv v : Bool} (h : FrameInv fb cnt facc fv v)
    (hlt : cnt.val < 8) : fv = false ∧ v = false := by
  have hfv : fv = false := Bool.eq_false_iff.2 fun hfv => absurd (h.full hfv) (Nat.ne_of_lt hlt)
  exact ⟨hfv, Bool.eq_false_iff.2 fun hv => by simp [h.complete hv] at hfv⟩

/-- The accumulator after byte `k` is the checksum of the summed bytes stored so far (R89). -/
theorem frameSum_crc16_take (f : Frame) (k : Nat) (h : k < 8) (b : Byte) :
    frameSum k (crc16 (f.toList.take (min k 6))) b = crc16 ((f.set k b h).toList.take (min (k + 1) 6)) := by
  by_cases hk : k < 6
  · rw [frameSum, if_pos (by simpa using hk), Nat.min_eq_left hk.le, Nat.min_eq_left hk, take_succ_set, crc16_snoc]
  · have hk : 6 ≤ k := Nat.le_of_not_lt hk
    rw [frameSum, if_neg (by simpa using hk), Nat.min_eq_right hk, Nat.min_eq_right (by omega)]
    exact congrArg crc16 (summedPart_set f k h hk b).symm

/-- Storing a byte keeps the frame buffer's part (R89). -/
theorem FrameInv.storeFrameByte {s : State} (h : s.HasFrameInv) (b : Byte) (hlt : s.cnt.val < 8) :
    (storeFrameByte b s hlt).HasFrameInv := by
  obtain ⟨hfv, hv⟩ := h.flags_of_lt hlt
  have hsum : frameSum s.cnt.val s.facc b = _ := h.running hlt ▸ frameSum_crc16_take s.fb s.cnt.val hlt b
  by_cases hlast : s.cnt.val = 7
  case pos =>
    refine ⟨fun _ => congrArg Nat.succ hlast, fun _ => by simp [Machine.storeFrameByte, hlast], fun hvalid => ?_,
      fun hc => absurd hc (by simp [Machine.storeFrameByte, hlast])⟩
    have hcmp : frameSum s.cnt.val s.facc b = receivedCrc (s.fb.set s.cnt.val b hlt) := by
      rw [receivedCrc_set_last s.fb _ hlt hlast]
      simpa [Machine.storeFrameByte, hlast] using hvalid
    refine ⟨Eq.trans ?_ hcmp, hcmp⟩
    rw [hsum, show min (s.cnt.val + 1) 6 = 6 by omega]
    rfl
  case neg =>
    refine ⟨fun hf => ?_, fun hf => ?_, fun hf => ?_, fun _ => hsum⟩ <;>
      simp [Machine.storeFrameByte, hlast, hfv, hv] at hf

/-! ### From accept to end -/

/-- What holds of the report registers, the wake report and the frame buffer from the accept of an operation up to its
end: no report stands and no fault is raised. -/
structure Quiet (s : State) : Prop where
  err : s.err = false
  fault : s.fault = false
  cause : s.cause = .none
  eph : s.eph = .idle
  edesc : s.edesc = 0
  wdesc : s.wf = false → s.wdesc = 0
  frame : s.HasFrameInv

/-- The frame buffer's part of the invariants. -/
theorem State.Inv.frame {s : State} (h : s.Inv) : s.HasFrameInv where
  full := h.i2
  complete := h.i3
  valid := fun hv => summedPart_eq s.fb ▸ h.i4 hv
  running := h.i4a

/-- A sticky fault is raised in IDLE only (I8). -/
theorem State.Inv.noFault {s : State} (h : s.Inv) (hp : s.ph ≠ .idle) : s.fault = false :=
  Bool.eq_false_iff.2 fun hf => hp (h.i8 hf).1

/-- The settle timer is 0 outside SETTLE (I11). -/
theorem State.Inv.tmr_eq_zero {s : State} (h : s.Inv) (hp : s.ph ≠ .settle) : s.tmr = 0 :=
  Decidable.by_contra fun ht => hp (h.i11 ht)

/-- An operation in progress is quiet. -/
theorem State.Inv.quiet {s : State} (h : s.Inv) (hp : s.ph ≠ .idle) : Quiet s := by
  obtain ⟨hcause, heph, hedesc⟩ := h.i9.2 (h.busyOpen hp).2
  exact ⟨(h.busyOpen hp).2, h.noFault hp, hcause, heph, hedesc, h.i10, h.frame⟩

/-- Accept-common makes a ready block quiet (R111). -/
theorem State.Inv.quiet_acceptCommon {s : State} (h : s.Inv) (hr : s.ready = true) (opc : Byte) :
    Quiet (acceptCommon opc s) :=
  ⟨rfl, ((ready_iff s).1 hr).2, rfl, rfl, rfl, h.i10, h.frame⟩

/-- The invariants in IDLE, on the registers they still constrain there. -/
theorem State.Inv.of_idle {s : State} (hp : s.ph = .idle) (ht : s.tmr = 0) (frame : s.HasFrameInv)
    (wdesc : s.wf = false → s.wdesc = 0)
    (fault : s.fault = true → s.err = true ∧ s.done = true ∧ (s.cause = .invariant ∨ s.cause = .illegalOp))
    (report : (s.err = true → s.done = true ∧ s.cause ≠ .none) ∧
      (s.err = false → s.cause = .none ∧ s.eph = .idle ∧ s.edesc = 0)) : s.Inv where
  i1 := Nat.le_of_lt_succ s.cnt.isLt
  i2 := frame.full
  i3 := frame.complete
  i4 := fun hv => summedPart_eq s.fb ▸ frame.valid hv
  i4a := frame.running
  i5 := absurd hp
  i6 := by simp [hp]
  i7 := by simp [hp]
  i8 := fun hf => ⟨hp, fault hf⟩
  i9 := report
  i10 := wdesc
  i11 := absurd ht
  busEmpty := by simp [hp]
  busyOpen := absurd hp

/-- A quiet state in IDLE has the invariants, whether or not `DONE` is set. -/
theorem Quiet.inv_idle {s : State} (q : Quiet s) (hp : s.ph = .idle) (ht : s.tmr = 0) : s.Inv :=
  .of_idle hp ht q.frame q.wdesc (by simp [q.fault]) (by simp [q.err, q.cause, q.eph, q.edesc])

/-- R142 keeps the invariants. -/
theorem Quiet.inv_raiseComm {s : State} (q : Quiet s) (ht : s.tmr = 0) (c : Cause) (hc : c ≠ .none) (d : Byte) :
    (raiseComm c d s).Inv :=
  .of_idle rfl ht q.frame q.wdesc (by simp [q.fault]) (by simp [hc])

/-- R143 keeps the invariants. -/
theorem Quiet.inv_raiseFault {s : State} (q : Quiet s) (ht : s.tmr = 0) {c : Cause}
    (hc : c = .invariant ∨ c = .illegalOp) : (raiseFault c s).Inv :=
  .of_idle rfl ht q.frame q.wdesc (by simp [hc]) (by rcases hc with rfl | rfl <;> simp)

/-- The invariants while an operation is in progress. -/
theorem Quiet.inv_busy {s : State} (q : Quiet s) (hd : s.done = false)
    (opr : s.opr = 0x10 ∨ s.opr = 0x11 ∨ s.opr = 0x12)
    (bus : s.ph = .wake ∨ s.ph = .cmdw ∨ s.ph = .settle ∨ s.ph = .read → s.fv = false ∧ s.v = false ∧ s.cnt.val = 0)
    (check : s.ph = .check ∨ s.ph = .decode → (s.opr = 0x11 ∨ s.opr = 0x12) ∧ s.fv = true)
    (decode : s.ph = .decode → s.v = true) (settle : s.tmr ≠ 0 → s.ph = .settle) : s.Inv where
  i1 := Nat.le_of_lt_succ s.cnt.isLt
  i2 := q.frame.full
  i3 := q.frame.complete
  i4 := fun hv => summedPart_eq s.fb ▸ q.frame.valid hv
  i4a := q.frame.running
  i5 := fun _ => opr
  i6 := check
  i7 := decode
  i8 := by simp [q.fault]
  i9 := by simp [q.err, q.cause, q.eph, q.edesc]
  i10 := q.wdesc
  i11 := settle
  busEmpty := bus
  busyOpen := fun _ => ⟨hd, q.err⟩

/-! ### The steps -/

/-- The model's own fields are no part of the invariants. -/
theorem State.Inv.world {s : State} (h : s.Inv) (script : List Event) (draws : Nat) (calls : List BusCall)
    (reads : List (BitVec 5 × Word32)) :
    { s with script := script, draws := draws, calls := calls, reads := reads : State }.Inv :=
  { h with toSpecInv := { h.toSpecInv with } }

theorem State.Inv.takeChoice {s : State} (h : s.Inv) : (takeChoice s).Inv := by
  unfold Machine.takeChoice
  split
  · exact h.world _ _ _ _
  · exact h.world _ _ _ _

theorem State.Inv.logCall {s : State} (h : s.Inv) (c : BusCall) : (logCall c s).Inv := h.world _ _ _ _

/-- The accept of a sequencer operation starts a transaction (R112). -/
theorem Quiet.inv_startTransaction {s : State} (q : Quiet s) (ht : s.tmr = 0) (hd : s.done = false)
    (hopr : s.opr = 0x10 ∨ s.opr = 0x11 ∨ s.opr = 0x12) (c r n : Byte) (rv uv : Bool) :
    { startTransaction c r n s with rv := rv, uv := uv : State }.Inv :=
  have q' : Quiet { startTransaction c r n s with rv := rv, uv := uv : State } :=
    { q with wdesc := fun _ => rfl, frame := .empty s.fb }
  q'.inv_busy hd hopr (fun _ => ⟨rfl, rfl, rfl⟩) nofun nofun (absurd ht)

/-- The local effect of every operation keeps the invariants. -/
theorem Quiet.inv_bodyOf {s : State} (q : Quiet s) (hp : s.ph = .idle) (ht : s.tmr = 0) (hd : s.done = false)
    (i : Instr) (hopr : s.opr = opcode i) : (bodyOf i s).Inv := by
  cases i with
  | cinit => exact Quiet.inv_idle { q with } hp ht
  | cbyte b => exact Quiet.inv_idle { q with } hp ht
  | compute n =>
    rw [bodyOf, computeBody]
    split
    · exact q.inv_raiseFault ht (.inl rfl)
    · exact Quiet.inv_idle { q with } hp ht
  | fstart => exact Quiet.inv_idle { q with frame := .empty s.fb } hp ht
  | fbyte b =>
    rw [bodyOf, fbyteBody]
    split
    case isTrue hlt => exact Quiet.inv_idle { q with frame := q.frame.storeFrameByte b hlt } hp ht
    case isFalse hge =>
      have hfull : s.cnt.val = 8 := by have := s.cnt.isLt; simp only [frameLen_eq] at hge; omega
      exact Quiet.inv_raiseComm (s := { s with fv := false, v := false })
        { q with frame := .unvalidated hfull _ _ _ } ht .length nofun 0
  | verify =>
    rw [bodyOf, verifyBody]
    split
    case isTrue hfv => exact Quiet.inv_idle { q with frame := q.frame.compareFrame hfv } hp ht
    case isFalse => exact q.inv_raiseFault ht (.inl rfl)
  | decrd =>
    rw [bodyOf, decrdBody]
    split
    · exact Quiet.inv_idle { q with } hp ht
    · exact q.inv_raiseFault ht (.inl rfl)
  | decid =>
    rw [bodyOf, decidBody]
    split
    · exact Quiet.inv_idle { q with } hp ht
    · exact q.inv_raiseFault ht (.inl rfl)
  | transact c r n => exact q.inv_startTransaction ht hd (.inl hopr) c r n s.rv s.uv
  | rdsens c r n => exact q.inv_startTransaction ht hd (.inr (.inl hopr)) c r n false s.uv
  | rduid c r n => exact q.inv_startTransaction ht hd (.inr (.inr hopr)) c r n s.rv false

/-- From one bus phase to another: the frame buffer stays empty and no report comes to stand. -/
theorem State.Inv.moveOnBus {s : State} (h : s.Inv) (hp : s.ph = .wake ∨ s.ph = .cmdw ∨ s.ph = .settle ∨ s.ph = .read)
    (p : Phase) (hbus : p ≠ .check ∧ p ≠ .decode) {n : Word16} (hn : n ≠ 0 → p = .settle) :
    { s with ph := p, tmr := n : State }.Inv := by
  have hbusy : s.ph ≠ .idle := by rcases hp with hp | hp | hp | hp <;> simp [hp]
  have q := h.quiet hbusy
  exact Quiet.inv_busy { q with } (h.busyOpen hbusy).1 (h.i5 hbusy) (fun _ => h.busEmpty hp)
    (fun hc => (hc.elim hbus.1 hbus.2).elim) (fun hd => (hbus.2 hd).elim) hn

/-- A failed wake write is remembered (R113). -/
theorem State.Inv.wakeFailed {s : State} (h : s.Inv) (d : Byte) : { s with wf := true, wdesc := d : State }.Inv :=
  { h with toSpecInv := { h.toSpecInv with i10 := nofun } }

/-- R113 keeps the invariants. -/
theorem State.Inv.afterWake {s : State} (h : s.Inv) (hp : s.ph = .wake) (a : WriteAnswer) : (afterWake a s).Inv := by
  have ht := h.tmr_eq_zero (by simp [hp])
  cases a with
  | ok => exact h.moveOnBus (.inl hp) .cmdw ⟨nofun, nofun⟩ (absurd ht)
  | err d => exact (h.wakeFailed d).moveOnBus (.inl hp) .cmdw ⟨nofun, nofun⟩ (absurd ht)

/-- R114 keeps the invariants. -/
theorem State.Inv.afterCommand {s : State} (h : s.Inv) (hp : s.ph = .cmdw) (a : WriteAnswer) :
    (afterCommand a s).Inv := by
  cases a with
  | ok => exact h.moveOnBus (.inr (.inl hp)) .settle ⟨nofun, nofun⟩ (fun _ => rfl)
  | err d => exact (h.quiet (by simp [hp])).inv_raiseComm (h.tmr_eq_zero (by simp [hp])) .transport nofun d

/-- R115 keeps the invariants. -/
theorem State.Inv.settleExit {s : State} (h : s.Inv) (hp : s.ph = .settle) (ht : s.tmr = 0) :
    { s with ph := .read : State }.Inv :=
  h.moveOnBus (.inr (.inr (.inl hp))) .read ⟨nofun, nofun⟩ (absurd ht)

/-- R123 keeps the invariants. -/
theorem State.Inv.tick {s : State} (h : s.Inv) (hp : s.ph = .settle) (n : Word16) : { s with tmr := n : State }.Inv :=
  { h with toSpecInv := { h.toSpecInv with i11 := fun _ => hp } }

/-- R116 keeps the invariants: a whole frame is stored. -/
theorem State.Inv.storeFrame {s : State} (h : s.Inv) (hp : s.ph = .read) (f : Frame) : (storeFrame f s).Inv := by
  have hbusy : s.ph ≠ .idle := by simp [hp]
  have q := h.quiet hbusy
  have ht := h.tmr_eq_zero (by simp [hp])
  have hv : s.v = false := (h.busEmpty (.inr (.inr (.inr hp)))).2.1
  have hframe : FrameInv f 8 s.facc true s.v := hv ▸ .unvalidated rfl _ _ _
  by_cases hopr : s.opr = 0x10
  · rw [storeFrame_transact f hopr]
    exact Quiet.inv_idle { q with frame := hframe } rfl ht
  · rw [storeFrame_composite f hopr]
    exact Quiet.inv_busy { q with frame := hframe } (h.busyOpen hbusy).1 (h.i5 hbusy) nofun
      (fun _ => ⟨(h.i5 hbusy).resolve_left hopr, rfl⟩) nofun (absurd ht)

theorem State.Inv.afterRead {s : State} (h : s.Inv) (hp : s.ph = .read) (a : ReadAnswer) : (afterRead a s).Inv := by
  have q := h.quiet (by simp [hp])
  have ht := h.tmr_eq_zero (by simp [hp])
  cases a with
  | err d => exact q.inv_raiseComm ht .transport nofun d
  | ok bytes =>
    rw [Machine.afterRead]
    split
    · exact h.storeFrame hp _
    · exact q.inv_raiseComm ht .length nofun 0

/-- R117 keeps the invariants. -/
theorem State.Inv.checkFrame {s : State} (h : s.Inv) (hp : s.ph = .check) : (checkFrame s).Inv := by
  have hbusy : s.ph ≠ .idle := by simp [hp]
  have q := h.quiet hbusy
  have ht := h.tmr_eq_zero (by simp [hp])
  obtain ⟨hopr, hfv⟩ := h.i6 (.inl hp)
  have q' : Quiet (compareFrame s) := { q with frame := q.frame.compareFrame hfv }
  rw [Machine.checkFrame]
  split
  case isTrue hvalid =>
    exact Quiet.inv_busy { q' with } (h.busyOpen hbusy).1 (h.i5 hbusy) nofun (fun _ => ⟨hopr, hfv⟩)
      (fun _ => hvalid) (absurd ht)
  case isFalse => exact q'.inv_raiseComm ht .checksum nofun 0

/-- R118 keeps the invariants. -/
theorem State.Inv.deliverFrame {s : State} (h : s.Inv) (hp : s.ph = .decode) : (deliverFrame s).Inv := by
  have q := h.quiet (by simp [hp])
  have ht := h.tmr_eq_zero (by simp [hp])
  rw [Machine.deliverFrame]
  split
  · exact Quiet.inv_idle { q with } rfl ht
  · exact Quiet.inv_idle { q with } rfl ht

/-- The reset values of R27 satisfy the invariants. -/
theorem HasResetValues.inv {s : State} (h : HasResetValues s) : s.Inv := by
  obtain ⟨-, herr, hfault, -, hfv, hv, -, -⟩ := h.flags
  obtain ⟨hcause, heph, hedesc, hwdesc⟩ := h.report
  have hframe : s.HasFrameInv := by
    rw [State.HasFrameInv, h.cnt, h.facc, hfv, hv]
    exact .empty s.fb
  exact Quiet.inv_idle ⟨herr, hfault, hcause, heph, hedesc, fun _ => hwdesc, hframe⟩ h.ph h.tmr

theorem hasResetValues_reset : HasResetValues State.reset := by
  constructor <;> simp [State.reset]

theorem hasResetValues_resetBlock (s : State) : HasResetValues (resetBlock s) := by
  constructor <;> simp

/-- Everything an event can do keeps the invariants. -/
theorem StepCase.inv {s t : State} {e : Event} (h : s.Inv) (hstep : StepCase s e t) : t.Inv := by
  cases hstep with
  | nothing => exact h
  | accept w i hr hd =>
    obtain ⟨hp, -⟩ := (ready_iff s).1 hr
    exact (h.quiet_acceptCommon hr _).inv_bodyOf hp (h.tmr_eq_zero (by simp [hp])) rfl i rfl
  | illegal w r hr hd =>
    obtain ⟨hp, -⟩ := (ready_iff s).1 hr
    exact (h.quiet_acceptCommon hr _).inv_raiseFault (h.tmr_eq_zero (by simp [hp])) (.inr rfl)
  | wake a hp => exact (h.logCall _).afterWake hp a
  | command a hp => exact (h.logCall _).afterCommand hp a
  | settleExit hp ht => exact h.settleExit hp ht
  | read a hp => exact (h.logCall _).afterRead hp a
  | check hp => exact h.checkFrame hp
  | decode hp => exact h.deliverFrame hp
  | tick hp _ => exact h.tick hp _
  | readReg n => exact h.world _ _ _ _
  | reset => exact (hasResetValues_resetBlock s).inv

/-- Settles O52: a split over everything a step can do. -/
theorem stepKeepsTheInvariants : Obligations.StepKeepsTheInvariants :=
  fun _ _ hs h => (step_cases h).inv hs.takeChoice

/-- Settles O53. -/
theorem resetHasTheInvariants : Obligations.ResetHasTheInvariants := hasResetValues_reset.inv

/-- Settles O54: the invariants hold at reset and every step keeps them, so every run does. -/
theorem reachableStatesHaveTheInvariants : Obligations.ReachableStatesHaveTheInvariants :=
  fun _ script _ h => (run_keeps stepKeepsTheInvariants (resetHasTheInvariants.world script _ _ _) h).toSpecInv

/-- Settles O55. -/
theorem resetLeavesTheResetValues : Obligations.ResetLeavesTheResetValues := by
  refine ⟨fun s hs => ⟨_, step_reset hs, ?_, rfl, hasResetValues_resetBlock _⟩, rfl, hasResetValues_reset⟩
  simp

end Sys2Proof.Machine
end

section
/-! PROOFS. No rule reads an unspecified register without its guard (O60): each update takes states that agree wherever
a guard says a register holds something to states that agree so again. -/

namespace Sys2Proof.Machine

namespace AgreeWhereSpecified

variable {s s' : State}

/-! ### What agreement gives -/

theorem ready (h : AgreeWhereSpecified s s') : s.ready = s'.ready := by
  rw [State.ready, State.ready, h.ph, h.fault]

theorem nextEvent (h : AgreeWhereSpecified s s') : nextEvent s = nextEvent s' := by
  rw [Machine.nextEvent, Machine.nextEvent, h.script, h.draws]

/-- The frame bytes up to `CNT` agree. -/
theorem take (h : AgreeWhereSpecified s s') {n : Nat} (hn : n ≤ s.cnt.val) :
    s.fb.toList.take n = s'.fb.toList.take n := by
  refine List.ext_getElem (by simp) fun k hk _ => ?_
  simp only [List.length_take, Vector.length_toList] at hk
  simpa using h.fb k (by omega) (by omega)

/-- A full frame buffer agrees. -/
theorem frame (h : AgreeWhereSpecified s s') (hcnt : s.cnt.val = 8) : s.fb = s'.fb :=
  Vector.ext fun k hk => h.fb k hk (hcnt ▸ hk)

/-! ### The updates -/

theorem acceptCommon (h : AgreeWhereSpecified s s') (opc : Byte) :
    AgreeWhereSpecified (acceptCommon opc s) (acceptCommon opc s') :=
  { h with opr := rfl, done := rfl, err := rfl, cause := rfl, eph := rfl, edesc := rfl }

theorem finish (h : AgreeWhereSpecified s s') : AgreeWhereSpecified (finish s) (finish s') :=
  { h with done := rfl }

theorem complete (h : AgreeWhereSpecified s s') : AgreeWhereSpecified (complete s) (complete s') :=
  { h with ph := rfl, done := rfl, cmd := nofun, raddr := nofun, rcnt := nofun }

theorem raiseComm (h : AgreeWhereSpecified s s') (c : Cause) (d : Byte) :
    AgreeWhereSpecified (raiseComm c d s) (raiseComm c d s') :=
  { h with
    err := rfl, cause := rfl, eph := h.ph, edesc := rfl, ph := rfl, done := rfl, cmd := nofun, raddr := nofun,
    rcnt := nofun }

theorem raiseFault (h : AgreeWhereSpecified s s') (c : Cause) :
    AgreeWhereSpecified (raiseFault c s) (raiseFault c s') :=
  { h with
    err := rfl, fault := rfl, cause := rfl, eph := rfl, edesc := rfl, ph := rfl, done := rfl, cmd := nofun,
    raddr := nofun, rcnt := nofun }

theorem startTransaction (h : AgreeWhereSpecified s s') (c r n : Byte) :
    AgreeWhereSpecified (startTransaction c r n s) (startTransaction c r n s') :=
  { h with
    cmd := fun _ => rfl, raddr := fun _ => rfl, rcnt := fun _ => rfl, wf := rfl, wdesc := rfl, cnt := rfl,
    facc := rfl, fb := nofun, fv := rfl, v := rfl, ph := rfl }

theorem logCall (h : AgreeWhereSpecified s s') {c c' : BusCall} (hc : c = c') :
    AgreeWhereSpecified (logCall c s) (logCall c' s') :=
  { h with calls := by simp [h.calls, hc] }

/-- The operand latches still agree when one phase follows another. -/
theorem movePhase (h : AgreeWhereSpecified s s') (hp : s.ph ≠ .idle) (p : Phase) :
    AgreeWhereSpecified { s with ph := p } { s' with ph := p } :=
  { h with ph := rfl, cmd := fun _ => h.cmd hp, raddr := fun _ => h.raddr hp, rcnt := fun _ => h.rcnt hp }

theorem setAcc (h : AgreeWhereSpecified s s') {x x' : Word16} (hx : x = x') :
    AgreeWhereSpecified { s with acc := x } { s' with acc := x' } :=
  { h with acc := hx }

theorem setTmr (h : AgreeWhereSpecified s s') {x x' : Word16} (hx : x = x') :
    AgreeWhereSpecified { s with tmr := x } { s' with tmr := x' } :=
  { h with tmr := hx }

theorem storeFrameByte (h : AgreeWhereSpecified s s') (b : Byte) (hlt : s.cnt.val < 8) (hlt' : s'.cnt.val < 8) :
    AgreeWhereSpecified (storeFrameByte b s hlt) (storeFrameByte b s' hlt') :=
  { h with
    facc := by simp [Machine.storeFrameByte, h.cnt, h.facc]
    cnt := Fin.ext (congrArg (·.val + 1) h.cnt)
    fb := fun k hk hstored => by
      have hstored : k < s.cnt.val + 1 := hstored
      simp only [Machine.storeFrameByte, Vector.getElem_set, ← h.cnt]
      split
      · rfl
      · exact h.fb k hk (by omega)
    fv := by simp [Machine.storeFrameByte, h.cnt, h.fv]
    v := by
      simp only [Machine.storeFrameByte, ← h.cnt, ← h.v, ← h.facc, frameLen_eq, beq_iff_eq]
      split
      case isTrue hlast => rw [h.fb 6 (by omega) (by omega)]
      case isFalse => rfl }

/-- The frame buffer's flags are cleared (R89 on a full buffer). -/
theorem invalidate (h : AgreeWhereSpecified s s') :
    AgreeWhereSpecified { s with fv := false, v := false } { s' with fv := false, v := false } :=
  { h with fv := rfl, v := rfl }

theorem compareFrame (h : AgreeWhereSpecified s s') (hfb : s.fb = s'.fb) :
    AgreeWhereSpecified (compareFrame s) (compareFrame s') :=
  { h with facc := by simp [hfb], v := by simp [hfb] }

theorem deliverReading (h : AgreeWhereSpecified s s') (hfb : s.fb = s'.fb) :
    AgreeWhereSpecified (deliverReading s) (deliverReading s') :=
  { h with hum := fun _ => by simp [hfb], tmp := fun _ => by simp [hfb], rv := rfl }

theorem deliverUid (h : AgreeWhereSpecified s s') (hfb : s.fb = s'.fb) :
    AgreeWhereSpecified (deliverUid s) (deliverUid s') :=
  { h with uid := fun _ => by simp [hfb], uv := rfl }

theorem loadFrame (h : AgreeWhereSpecified s s') (f : Frame) :
    AgreeWhereSpecified { s with fb := f, cnt := 8, fv := true } { s' with fb := f, cnt := 8, fv := true } :=
  { h with fb := fun _ _ _ => rfl, cnt := rfl, fv := rfl }

theorem readRegister (h : AgreeWhereSpecified s s') (n : BitVec 5) :
    AgreeWhereSpecified (readRegister n s) (readRegister n s') :=
  { h with }

/-- The draws agree, so the unspecified registers agree too after a reset. -/
theorem resetBlock (h : AgreeWhereSpecified s s') : AgreeWhereSpecified (resetBlock s) (resetBlock s') := by
  have hreset : { Machine.resetBlock s with reads := s'.reads } = Machine.resetBlock s' := by
    simp only [Machine.resetBlock, h.draws, h.script, h.calls]
  rw [← hreset]
  constructor <;> intros <;> rfl

theorem takeChoice (h : AgreeWhereSpecified s s') : AgreeWhereSpecified (takeChoice s) (takeChoice s') := by
  rw [Machine.takeChoice, Machine.takeChoice, ← h.script]
  split
  · exact { h with script := rfl }
  · exact { h with script := rfl, draws := congrArg Nat.succ h.draws }

/-! ### The operations -/

/-- Where both states take the same branch, agreement in each branch is enough. -/
theorem ite {c c' : Prop} [Decidable c] [Decidable c'] {a a' b b' : State} (hc : c ↔ c')
    (ha : c → AgreeWhereSpecified a a') (hb : ¬ c → AgreeWhereSpecified b b') :
    AgreeWhereSpecified (if c then a else b) (if c' then a' else b') := by
  by_cases h : c
  · rw [if_pos h, if_pos (hc.1 h)]
    exact ha h
  · rw [if_neg h, if_neg (mt hc.2 h)]
    exact hb h

/-- R89. -/
theorem fbyteBody (h : AgreeWhereSpecified s s') (b : Byte) :
    AgreeWhereSpecified (fbyteBody b s) (fbyteBody b s') := by
  rw [Machine.fbyteBody, Machine.fbyteBody]
  by_cases hlt : s.cnt.val < Config.frameLen
  · rw [dif_pos hlt, dif_pos (h.cnt ▸ hlt)]
    exact (h.storeFrameByte b hlt _).finish
  · rw [dif_neg hlt, dif_neg (h.cnt ▸ hlt)]
    exact h.invalidate.raiseComm _ _

/-- The effect of every operation; `FV` guards the bytes that VERIFY, DECRD and DECID read (I2). -/
theorem bodyOf (h : AgreeWhereSpecified s s') (hfull : s.fv = true → s.cnt.val = 8) (i : Instr) :
    AgreeWhereSpecified (bodyOf i s) (bodyOf i s') := by
  have hfb (hv : (s.fv && s.v) = true) : s.fb = s'.fb := h.frame (hfull (Bool.and_eq_true_iff.1 hv).1)
  cases i with
  | cinit => exact (h.setAcc rfl).finish
  | cbyte b => exact (h.setAcc (by rw [h.acc])).finish
  | compute n =>
    exact .ite (by rw [h.cnt]) (fun _ => h.raiseFault _)
      (fun hn => (h.setAcc (congrArg crc16 (h.take (Nat.le_of_not_lt hn)))).finish)
  | fstart => exact finish { h with cnt := rfl, facc := rfl, fb := nofun, fv := rfl, v := rfl }
  | fbyte b => exact h.fbyteBody b
  | verify =>
    exact .ite (by rw [h.fv]) (fun hfv => (h.compareFrame (h.frame (hfull hfv))).finish) (fun _ => h.raiseFault _)
  | decrd =>
    exact .ite (by rw [h.fv, h.v]) (fun hv => (h.deliverReading (hfb hv)).finish) (fun _ => h.raiseFault _)
  | decid => exact .ite (by rw [h.fv, h.v]) (fun hv => (h.deliverUid (hfb hv)).finish) (fun _ => h.raiseFault _)
  | transact c r n => exact h.startTransaction c r n
  | rdsens c r n => exact { h.startTransaction c r n with rv := rfl, hum := nofun, tmp := nofun }
  | rduid c r n => exact { h.startTransaction c r n with uv := rfl, uid := nofun }

/-! ### The steps -/

theorem wakeStep (h : AgreeWhereSpecified s s') (a : WriteAnswer) :
    AgreeWhereSpecified (wakeStep a s) (wakeStep a s') := by
  refine .ite (by rw [h.ph]) (fun hp => ?_) (fun _ => h)
  have hmove := (h.logCall (c := wakeCall) rfl).movePhase (by simp [hp]) .cmdw
  cases a with
  | ok => exact hmove
  | err d => exact { hmove with wf := rfl, wdesc := rfl }

theorem commandStep (h : AgreeWhereSpecified s s') (a : WriteAnswer) :
    AgreeWhereSpecified (commandStep a s) (commandStep a s') := by
  refine .ite (by rw [h.ph]) (fun hp => ?_) (fun _ => h)
  have hbusy : s.ph ≠ .idle := by simp [hp]
  have hcall : commandCall s = commandCall s' := by
    rw [commandCall, commandCall, h.cmd hbusy, h.raddr hbusy, h.rcnt hbusy]
  cases a with
  | ok => exact ((h.logCall hcall).movePhase hbusy .settle).setTmr rfl
  | err d => exact (h.logCall hcall).raiseComm _ d

theorem settleExitStep (h : AgreeWhereSpecified s s') :
    AgreeWhereSpecified (settleExitStep s) (settleExitStep s') :=
  .ite (by rw [h.ph, h.tmr]) (fun hp => h.movePhase (by simp [hp.1]) .read) (fun _ => h)

theorem storeFrame (h : AgreeWhereSpecified s s') (hp : s.ph ≠ .idle) (f : Frame) :
    AgreeWhereSpecified (storeFrame f s) (storeFrame f s') :=
  .ite (by rw [h.opr]) (fun _ => (h.loadFrame f).complete) (fun _ => (h.loadFrame f).movePhase hp .check)

theorem readStep (h : AgreeWhereSpecified s s') (a : ReadAnswer) :
    AgreeWhereSpecified (readStep a s) (readStep a s') := by
  refine .ite (by rw [h.ph]) (fun hp => ?_) (fun _ => h)
  have hcall := h.logCall (c := readCall) rfl
  cases a with
  | err d => exact hcall.raiseComm _ d
  | ok bytes =>
    rw [afterRead, afterRead]
    split
    · exact hcall.storeFrame (by simp [hp]) _
    · exact hcall.raiseComm _ _

theorem checkStep (h : AgreeWhereSpecified s s') (hs : s.Inv) : AgreeWhereSpecified (checkStep s) (checkStep s') := by
  refine .ite (by rw [h.ph]) (fun hp => ?_) (fun _ => h)
  have hfb : s.fb = s'.fb := h.frame (hs.i2 (hs.i6 (.inl hp)).2)
  have hcompare := h.compareFrame hfb
  exact .ite (by rw [hfb]) (fun _ => hcompare.movePhase (by simp [hp]) .decode) (fun _ => hcompare.raiseComm _ _)

theorem decodeStep (h : AgreeWhereSpecified s s') (hs : s.Inv) :
    AgreeWhereSpecified (decodeStep s) (decodeStep s') := by
  refine .ite (by rw [h.ph]) (fun hp => ?_) (fun _ => h)
  have hfb : s.fb = s'.fb := h.frame (hs.i2 (hs.i6 (.inr hp)).2)
  exact .ite (by rw [h.opr]) (fun _ => (h.deliverReading hfb).complete) (fun _ => (h.deliverUid hfb).complete)

theorem tickStep (h : AgreeWhereSpecified s s') : AgreeWhereSpecified (tickStep s) (tickStep s') :=
  .ite (by rw [h.ph, h.tmr]) (fun _ => h.setTmr (by rw [h.tmr])) (fun _ => h)

/-- A word on the command port; a word that is not taken changes neither state. -/
theorem presentWord (h : AgreeWhereSpecified s s') (hs : s.Inv) {w : Word32} {t : State}
    (ht : presentWord w s = .next t) : ∃ t', presentWord w s' = .next t' ∧ AgreeWhereSpecified t t' := by
  rcases presentWord_cases ht with ⟨hr, rfl⟩ | ⟨i, hr, hd, rfl⟩ | ⟨e, hr, hd, rfl⟩
  · exact ⟨s', presentWord_notReady (h.ready ▸ hr), h⟩
  · exact ⟨_, (presentWord_ok hd).trans (exec_ready (h.ready ▸ hr)), (h.acceptCommon _).bodyOf hs.i2 i⟩
  · exact ⟨_, (presentWord_error hd).trans (acceptOp_ready (h.ready ▸ hr)), (h.acceptCommon _).raiseFault _⟩

/-- Every event takes agreeing states to agreeing states. -/
theorem takeEvent (h : AgreeWhereSpecified s s') (hs : s.Inv) {e : Event} {t : State}
    (ht : takeEvent e s = .next t) : ∃ t', takeEvent e s' = .next t' ∧ AgreeWhereSpecified t t' := by
  cases e with
  | present w => exact h.presentWord hs ht
  | wake a => cases ht; exact ⟨_, rfl, h.wakeStep a⟩
  | command a => cases ht; exact ⟨_, rfl, h.commandStep a⟩
  | settleExit => cases ht; exact ⟨_, rfl, h.settleExitStep⟩
  | read a => cases ht; exact ⟨_, rfl, h.readStep a⟩
  | check => cases ht; exact ⟨_, rfl, h.checkStep hs⟩
  | decode => cases ht; exact ⟨_, rfl, h.decodeStep hs⟩
  | tick => cases ht; exact ⟨_, rfl, h.tickStep⟩
  | readReg n => cases ht; exact ⟨_, rfl, h.readRegister n⟩
  | reset => cases ht; exact ⟨_, rfl, h.resetBlock⟩

end AgreeWhereSpecified

/-- Settles O60: agreeing states face the same choice, and every event keeps agreement. -/
theorem unspecifiedRegistersDoNotMatter : Obligations.UnspecifiedRegistersDoNotMatter := by
  intro s s' t hs h ht
  rw [step] at ht
  rw [step, ← h.nextEvent]
  exact h.takeChoice.takeEvent hs.takeChoice ht

end Sys2Proof.Machine
end

section
/-! PROOFS. What the host sees (O56 to O59): the packed views, the error classes and the read port. -/

namespace Sys2Proof.Machine

/-! ### STATUS -/

/-- A flag appended below a word is its bit 0 and moves every other bit up by one. -/
theorem getLsbD_append_ofBool {n : Nat} (x : BitVec n) (b : Bool) (k : Nat) :
    (x ++ BitVec.ofBool b).getLsbD k = if k = 0 then b else x.getLsbD (k - 1) := by
  rw [BitVec.getLsbD_append]
  rcases k with - | k <;> simp

/-- STATUS bit by bit (R22). -/
theorem getLsbD_status (s : State) (k : Nat) :
    s.status.getLsbD k =
      ([s.busy, s.done, s.err, s.commError, s.fault, s.wf, s.fv, s.v, s.rv, s.uv][k]?).getD false := by
  simp only [State.status, getLsbD_append_ofBool]
  rcases k with _ | _ | _ | _ | _ | _ | _ | _ | _ | _ | k <;> simp

/-- Settles O56. -/
theorem statusPacksTheFlags : Obligations.StatusPacksTheFlags := by
  refine ⟨fun s => ?_, fun s => ?_, rfl⟩
  · simp only [getLsbD_status]
    refine ⟨rfl, rfl, rfl, rfl, rfl, rfl, rfl, rfl, rfl, rfl, fun k hk => ?_⟩
    rw [List.getElem?_eq_none hk, Option.getD_none]
  · simp only [getLsbD_status]
    exact ⟨rfl, rfl, rfl, rfl⟩

/-! ### ERRINFO -/

theorem errinfo_cause (s : State) : s.errinfo.extractLsb' 0 4 = s.cause.code := BitVec.extractLsb'_append_eq_right

theorem errinfo_eph (s : State) : s.errinfo.extractLsb' 4 3 = s.eph.code :=
  (BitVec.extractLsb'_append_eq_of_le (by decide)).trans BitVec.extractLsb'_append_eq_right

theorem errinfo_reserved (s : State) : s.errinfo.getLsbD 7 = false := by
  rw [State.errinfo, BitVec.getLsbD_append, if_neg (by decide), BitVec.getLsbD_append, if_neg (by decide),
    BitVec.getLsbD_append, if_pos (by decide)]
  rfl

/-- The upper three bytes of ERRINFO. -/
theorem errinfo_bytes (s : State) (k : Nat) :
    s.errinfo.extractLsb' (k + 8) 8 = (0#8 ++ s.wdesc ++ s.edesc).extractLsb' k 8 :=
  (BitVec.extractLsb'_append_eq_of_le (by omega)).trans <|
    (BitVec.extractLsb'_append_eq_of_le (by omega)).trans (BitVec.extractLsb'_append_eq_of_le (by omega))

theorem errinfo_edesc (s : State) : s.errinfo.extractLsb' 8 8 = s.edesc :=
  (errinfo_bytes s 0).trans BitVec.extractLsb'_append_eq_right

theorem errinfo_wdesc (s : State) : s.errinfo.extractLsb' 16 8 = s.wdesc :=
  (errinfo_bytes s 8).trans <|
    (BitVec.extractLsb'_append_eq_of_le (by decide)).trans BitVec.extractLsb'_append_eq_right

theorem errinfo_top (s : State) : s.errinfo.extractLsb' 24 8 = 0 :=
  (errinfo_bytes s 16).trans <|
    (BitVec.extractLsb'_append_eq_of_le (by decide)).trans BitVec.extractLsb'_append_eq_left

/-- Settles O57. -/
theorem errinfoPacksTheReport : Obligations.ErrinfoPacksTheReport := by
  refine ⟨fun s => ⟨?_, ?_, errinfo_reserved s, errinfo_edesc s, errinfo_wdesc s, errinfo_top s⟩, rfl⟩
  · rw [errinfo_cause]
    cases s.cause <;> rfl
  · rw [errinfo_eph]
    cases s.eph <;> rfl

/-! ### The error classes -/

/-- Settles O58: a sticky fault has the cause INVARIANT or ILLEGAL_OP (I8), which are no CommunicationError. -/
theorem errorClassesAreTold : Obligations.ErrorClassesAreTold := by
  intro s
  refine ⟨by simp [State.busy], ?_, fun hs hf => ?_⟩
  · cases hc : s.cause <;> simp [State.commError, Cause.isComm, hc]
  · obtain ⟨-, -, -, hc | hc⟩ := hs.i8 hf <;> simp [State.commError, Cause.isComm, hc]

/-! ### The read port -/

/-- A narrow register is zero-extended (R24). -/
theorem toNat_zeroExtend {w : Nat} (x : BitVec w) (hw : w ≤ 32 := by decide) : (x.setWidth 32).toNat = x.toNat :=
  BitVec.toNat_setWidth_of_le hw

/-- A number that fits the port is read as it is (R25). -/
theorem toNat_portNumber {n : Nat} (h : n ≤ 0xFFFF) : (BitVec.ofNat 32 n).toNat = n := by
  rw [BitVec.toNat_ofNat]
  omega

/-- The ranges of the two parts of a scaled value (R25, R68). -/
theorem scaled_le (r : Word16) : scaledInt r ≤ 6553 ∧ scaledTenths r ≤ 9 := by
  have := r.isLt
  simp only [scaledInt, scaledTenths, Config.scaleDiv]
  omega

/-- The frame bytes have the numbers 0x10 to 0x17 (R24). -/
theorem readPort_fb (s : State) (k : Nat) (h : k < 8) :
    s.readPort (BitVec.ofNat 5 (0x10 + k)) = (s.fb[k]).setWidth 32 := by
  match k, h with
  | 0, _ | 1, _ | 2, _ | 3, _ | 4, _ | 5, _ | 6, _ | 7, _ => rfl

/-- The numbers above the frame bytes are reserved and read 0 (R24). -/
theorem readPort_reserved (s : State) (n : BitVec 5) (h : 0x18 ≤ n.toNat) : s.readPort n = 0 := by
  unfold State.readPort
  split
  case h_25 => rfl
  all_goals omega

/-- Settles O59. -/
theorem readPortAnswersWithoutEffect : Obligations.ReadPortAnswersWithoutEffect := by
  refine ⟨fun s => ?_, fun s n rest hs => step_cons hs⟩
  obtain ⟨hhumInt, hhumTenths⟩ := scaled_le s.hum
  obtain ⟨htmpInt, htmpTenths⟩ := scaled_le s.tmp
  have hcnt := s.cnt.isLt
  refine ⟨rfl, rfl, toNat_zeroExtend _, toNat_zeroExtend _, toNat_portNumber (by omega), toNat_zeroExtend _,
    toNat_zeroExtend _, rfl, toNat_portNumber (hhumInt.trans (by decide)),
    toNat_portNumber (hhumTenths.trans (by decide)), toNat_portNumber (htmpInt.trans (by decide)),
    toNat_portNumber (htmpTenths.trans (by decide)), hhumInt, hhumTenths, htmpInt, htmpTenths, rfl,
    toNat_zeroExtend _, ?_, toNat_zeroExtend _, fun k h => ?_, readPort_reserved s⟩
  · rw [show s.readPort 0x0E = s.ph.code.setWidth 32 from rfl, toNat_zeroExtend]
    cases s.ph <;> rfl
  · rw [readPort_fb s k h, toNat_zeroExtend]

end Sys2Proof.Machine
end

section
/-! PROOFS. The frame's fields as numbers (O5) and the calls on the bus transport (O38, O39): which step makes a call,
and which calls the operation in progress still has ahead. -/

namespace Sys2Proof.Machine

/-! ### The byte orders -/

/-- Appending puts the left word above the right one. -/
theorem toNat_append_eq_add {m n : Nat} (x : BitVec m) (y : BitVec n) :
    (x ++ y).toNat = 2 ^ n * x.toNat + y.toNat := by
  rw [BitVec.toNat_append, ← Nat.shiftLeft_add_eq_or_of_lt y.isLt, Nat.shiftLeft_eq, Nat.mul_comm]

theorem le16_toNat (lo hi : Byte) : (le16 lo hi).toNat = lo.toNat + 256 * hi.toNat := by
  rw [le16_eq_append, toNat_append_eq_add, Nat.add_comm]
  rfl

theorem be16_toNat (hi lo : Byte) : (be16 hi lo).toNat = 256 * hi.toNat + lo.toNat := by
  rw [be16_eq_le16, le16_toNat, Nat.add_comm]

theorem be32_eq_append (b0 b1 b2 b3 : Byte) : be32 b0 b1 b2 b3 = b0 ++ b1 ++ b2 ++ b3 := by
  have h := BitVec.setWidth_append_append_append_eq_shiftLeft_setWidth_or (w'''' := 32) (b := b0) (b' := b1)
    (b'' := b2) (b''' := b3)
  rw [BitVec.setWidth_eq] at h
  exact h.symm

theorem be32_toNat (b0 b1 b2 b3 : Byte) :
    (be32 b0 b1 b2 b3).toNat = 16777216 * b0.toNat + 65536 * b1.toNat + 256 * b2.toNat + b3.toNat := by
  rw [be32_eq_append, toNat_append_eq_add, toNat_append_eq_add, toNat_append_eq_add]
  omega

/-- Settles O5: each field of a frame is an integer assembled in its byte order (R44, R45). -/
theorem frameFieldsAreUnsignedInTheirByteOrders : Obligations.FrameFieldsAreUnsignedInTheirByteOrders :=
  fun f => ⟨le16_toNat f[6] f[7], be16_toNat f[2] f[3], be16_toNat f[4] f[5], be32_toNat f[2] f[3] f[4] f[5]⟩

/-! ### The operations: calls and phase -/

section

variable (s : State)

/-- The local effect of an operation makes no call (R52): only the engine's steps do. -/
@[simp] theorem bodyOf_calls (i : Instr) : (bodyOf i s).calls = s.calls := by
  cases i with
  | compute n => simp only [bodyOf, computeBody]; split <;> simp
  | fbyte b => simp only [bodyOf, fbyteBody]; split <;> simp [storeFrameByte]
  | verify => simp only [bodyOf, verifyBody]; split <;> simp
  | decrd => simp only [bodyOf, decrdBody]; split <;> simp
  | decid => simp only [bodyOf, decidBody]; split <;> simp
  | _ => rfl

@[simp] theorem afterWake_calls (a : WriteAnswer) : (afterWake a s).calls = s.calls := by cases a <;> rfl
@[simp] theorem afterWake_ph (a : WriteAnswer) : (afterWake a s).ph = .cmdw := by cases a <;> rfl
@[simp] theorem afterWake_cmd (a : WriteAnswer) : (afterWake a s).cmd = s.cmd := by cases a <;> rfl
@[simp] theorem afterWake_raddr (a : WriteAnswer) : (afterWake a s).raddr = s.raddr := by cases a <;> rfl
@[simp] theorem afterWake_rcnt (a : WriteAnswer) : (afterWake a s).rcnt = s.rcnt := by cases a <;> rfl

@[simp] theorem afterCommand_calls (a : WriteAnswer) : (afterCommand a s).calls = s.calls := by cases a <;> rfl

/-- The command step goes on to SETTLE or ends the operation (R114). -/
theorem afterCommand_ph (a : WriteAnswer) : (afterCommand a s).ph = .settle ∨ (afterCommand a s).ph = .idle := by
  cases a with
  | ok => exact .inl rfl
  | err d => exact .inr rfl

@[simp] theorem storeFrame_calls (f : Frame) : (storeFrame f s).calls = s.calls := by
  rw [storeFrame]; split <;> rfl

theorem storeFrame_ph (f : Frame) : (storeFrame f s).ph = .check ∨ (storeFrame f s).ph = .idle := by
  by_cases h : s.opr = 0x10
  · exact .inr (congrArg State.ph (storeFrame_transact f h))
  · exact .inl (congrArg State.ph (storeFrame_composite f h))

/-- Everything the answer of a read does: a frame is stored, or an error is raised (R116). -/
theorem afterRead_cases (a : ReadAnswer) :
    (∃ f, afterRead a s = storeFrame f s) ∨ ∃ c d, afterRead a s = raiseComm c d s := by
  cases a with
  | err d => exact .inr ⟨.transport, d, rfl⟩
  | ok bytes =>
    by_cases h : bytes.length = Config.frameLen
    · exact .inl ⟨frameOfList bytes h, dif_pos h⟩
    · exact .inr ⟨.length, 0, dif_neg h⟩

@[simp] theorem afterRead_calls (a : ReadAnswer) : (afterRead a s).calls = s.calls := by
  rcases afterRead_cases s a with ⟨f, h⟩ | ⟨c, d, h⟩ <;> simp [h]

/-- The read step goes on to CHECK or ends the operation (R116). -/
theorem afterRead_ph (a : ReadAnswer) : (afterRead a s).ph = .check ∨ (afterRead a s).ph = .idle := by
  rcases afterRead_cases s a with ⟨f, h⟩ | ⟨c, d, h⟩
  · exact h ▸ storeFrame_ph s f
  · exact .inr (congrArg State.ph h)

@[simp] theorem checkFrame_calls : (checkFrame s).calls = s.calls := by
  rw [checkFrame]; split <;> rfl

/-- The check step goes on to DECODE or ends the operation (R117). -/
theorem checkFrame_ph : (checkFrame s).ph = .decode ∨ (checkFrame s).ph = .idle := by
  rw [checkFrame]
  split
  · exact .inl rfl
  · exact .inr rfl

@[simp] theorem deliverFrame_calls : (deliverFrame s).calls = s.calls := by
  rw [deliverFrame]; split <;> rfl

@[simp] theorem deliverFrame_ph : (deliverFrame s).ph = .idle := by
  rw [deliverFrame]; split <;> rfl

end

/-! ### One step -/

/-- Everything an event can do to the record of calls: nothing, or the call of its phase (R42, R52). -/
theorem StepCase.calls {s t : State} {e : Event} (h : StepCase s e t) :
    t.calls = s.calls ∨
    (s.ph = .wake ∧ t.ph = .cmdw ∧ t.calls = s.calls ++ [wakeCall]) ∨
    (s.ph = .cmdw ∧ (t.ph = .settle ∨ t.ph = .idle) ∧ t.calls = s.calls ++ [commandCall s]) ∨
    (s.ph = .read ∧ (t.ph = .check ∨ t.ph = .idle) ∧ t.calls = s.calls ++ [readCall]) := by
  cases h with
  | wake a hp => exact .inr (.inl ⟨hp, by simp, by simp⟩)
  | command a hp => exact .inr (.inr (.inl ⟨hp, afterCommand_ph _ a, by simp⟩))
  | read a hp => exact .inr (.inr (.inr ⟨hp, afterRead_ph _ a, by simp⟩))
  | _ => exact .inl (by simp)

/-- Settles O38: the call a step makes is its phase's, with the operands latched. -/
theorem busCallsOfAStep : Obligations.BusCallsOfAStep := by
  intro s t h
  simpa [wakeCall, commandCall, commandFrame, readCall] using (step_cases h).calls

/-! ### One operation -/

/-- The calls the operation in progress still has ahead, if none of its steps fails (R42). -/
def callsAhead (s : State) : List BusCall :=
  match s.ph with
  | .wake => [wakeCall, commandCall s, readCall]
  | .cmdw => [commandCall s, readCall]
  | .settle | .read => [readCall]
  | .check | .decode | .idle => []

theorem callsAhead_wake {s : State} (h : s.ph = .wake) : callsAhead s = [wakeCall, commandCall s, readCall] := by
  simp [callsAhead, h]

theorem callsAhead_cmdw {s : State} (h : s.ph = .cmdw) : callsAhead s = [commandCall s, readCall] := by
  simp [callsAhead, h]

theorem callsAhead_settle {s : State} (h : s.ph = .settle) : callsAhead s = [readCall] := by simp [callsAhead, h]

theorem callsAhead_read {s : State} (h : s.ph = .read) : callsAhead s = [readCall] := by simp [callsAhead, h]

/-- No call is ahead once the frame has been read. -/
theorem callsAhead_nil {s : State} (h : s.ph = .check ∨ s.ph = .decode ∨ s.ph = .idle) : callsAhead s = [] := by
  rcases h with h | h | h <;> simp [callsAhead, h]

/-- The calls ahead depend on the phase and the latched operands only. -/
theorem callsAhead_congr {s t : State} (hp : t.ph = s.ph) (hc : t.cmd = s.cmd) (hr : t.raddr = s.raddr)
    (hn : t.rcnt = s.rcnt) : callsAhead t = callsAhead s := by
  simp only [callsAhead, commandCall, hp, hc, hr, hn]

/-- From `s` to `t` some calls are made, and those with the ones still ahead are the first few that were ahead. -/
def CallsProgress (s t : State) : Prop :=
  ∃ made, t.calls = s.calls ++ made ∧ made ++ callsAhead t <+: callsAhead s

theorem CallsProgress.trans {s t u : State} (hst : CallsProgress s t) (htu : CallsProgress t u) :
    CallsProgress s u := by
  obtain ⟨m, hm, hpre⟩ := hst
  obtain ⟨n, hn, hpre'⟩ := htu
  refine ⟨m ++ n, by rw [hn, hm, List.append_assoc], ?_⟩
  rw [List.append_assoc]
  exact ((List.prefix_append_right_inj m).2 hpre').trans hpre

/-- No call is made, and the same calls stay ahead. -/
theorem CallsProgress.of_same {s t : State} (h : t.calls = s.calls) (ahead : callsAhead t = callsAhead s) :
    CallsProgress s t := ⟨[], by rw [h, List.append_nil], ahead ▸ List.prefix_rfl⟩

/-- No call is made, and none is ahead any more. -/
theorem CallsProgress.of_nil {s t : State} (h : t.calls = s.calls)
    (ht : t.ph = .check ∨ t.ph = .decode ∨ t.ph = .idle) : CallsProgress s t :=
  ⟨[], by rw [h, List.append_nil], by rw [callsAhead_nil ht]; exact List.nil_prefix⟩

/-- Every event takes an operation in progress forward through its calls. -/
theorem StepCase.callsProgress {s t : State} {e : Event} (h : StepCase s e t) (hbusy : s.ph ≠ .idle) :
    CallsProgress s t := by
  cases h with
  | nothing | readReg | tick => exact .of_same rfl rfl
  | accept w i hr | illegal w r hr => exact absurd ((ready_iff s).1 hr).1 hbusy
  | wake a hp =>
    refine ⟨[wakeCall], by simp, ?_⟩
    rw [callsAhead_wake hp, callsAhead_cmdw (by simp)]
    simp [commandCall]
  | command a hp =>
    refine ⟨[commandCall s], by simp, ?_⟩
    rw [callsAhead_cmdw hp]
    rcases afterCommand_ph (logCall (commandCall s) s) a with ht | ht
    · rw [callsAhead_settle ht]; exact List.prefix_rfl
    · rw [callsAhead_nil (.inr (.inr ht))]; exact List.prefix_append _ _
  | settleExit hp => exact .of_same rfl ((callsAhead_read rfl).trans (callsAhead_settle hp).symm)
  | read a hp =>
    refine ⟨[readCall], by simp, ?_⟩
    rw [callsAhead_read hp, callsAhead_nil ((afterRead_ph _ a).imp_right .inr)]
    exact List.prefix_rfl
  | check => exact .of_nil (checkFrame_calls s) (.inr (checkFrame_ph s))
  | decode => exact .of_nil (deliverFrame_calls s) (.inr (.inr (deliverFrame_ph s)))
  | reset => exact .of_nil rfl (.inr (.inr rfl))

theorem step_callsProgress {s t : State} (h : step s = .next t) (hbusy : s.ph ≠ .idle) : CallsProgress s t := by
  have htake : CallsProgress s (takeChoice s) :=
    .of_same (by simp) (callsAhead_congr (by simp) (by simp) (by simp) (by simp))
  exact htake.trans ((step_cases h).callsProgress (by simpa using hbusy))

/-- So does every run that has not been in IDLE before its last state. -/
theorem run_callsProgress {k : Nat} {s t : State} (h : run k s = .next t)
    (hbusy : ∀ (j : Nat) (u : State), j < k → run j s = .next u → u.ph ≠ .idle) : CallsProgress s t := by
  induction k generalizing s with
  | zero => cases h; exact .of_same rfl rfl
  | succ k ih =>
    obtain ⟨u, hu⟩ := step_next s
    have hrest := ih (run_succ hu ▸ h) fun j v hj hv => hbusy (j + 1) v (by omega) ((run_succ hu).trans hv)
    exact (step_callsProgress hu (hbusy 0 s (by omega) rfl)).trans hrest

/-- Settles O39: three calls are ahead in WAKE, and a run makes the first few of them. -/
theorem oneTransactionsBusTraffic : Obligations.OneTransactionsBusTraffic := by
  intro s t k hp h hbusy
  obtain ⟨made, hcalls, hprefix⟩ := run_callsProgress h hbusy
  have hmade : made <+: callsAhead s := (List.prefix_append _ _).trans hprefix
  rw [callsAhead_wake hp] at hmade
  refine ⟨made.length, hmade.length_le, ?_⟩
  rw [hcalls]
  exact congrArg (s.calls ++ ·) (List.prefix_iff_eq_take.1 hmade)

end Sys2Proof.Machine
end

section
/-! PROOFS. The operation word (O1 to O4): decoding inverts the layout of R61, the legal words of R63 are exactly the
words of the operations, and a row of the opcode table applies to exactly the legal words with its opcode (R62). -/

namespace Sys2Proof

/-! ### Decoding and encoding -/

theorem requireZeroBC_eq_ok_iff {o : OpWord} {i j : Instr} :
    requireZeroBC o i = .ok j ↔ o.b = 0 ∧ o.c = 0 ∧ i = j := by
  simp only [requireZeroBC, ite_eq_iff, reduceCtorEq, and_false, false_or, not_not, Except.ok.injEq]

theorem requireZeroABC_eq_ok_iff {o : OpWord} {i j : Instr} :
    requireZeroABC o i = .ok j ↔ o.a = 0 ∧ o.b = 0 ∧ o.c = 0 ∧ i = j := by
  simp only [requireZeroABC, ite_eq_iff, reduceCtorEq, and_false, false_or, not_not, requireZeroBC_eq_ok_iff]

/-- An operation that passes the check of `B` and `C` has the fields of the word, if it has its `OPC` and `A`. -/
theorem fields_eq_of_requireZeroBC {o : OpWord} {i j : Instr} {opc : Byte} (hopc : o.opc = opc)
    (h : requireZeroBC o i = .ok j) (hi : fields i = ⟨opc, o.a, 0, 0⟩) : fields j = o := by
  obtain ⟨hb, hc, rfl⟩ := requireZeroBC_eq_ok_iff.1 h
  rw [hi, OpWord.mk.injEq]
  exact ⟨hopc.symm, rfl, hb.symm, hc.symm⟩

/-- An operation that passes the check of `A`, `B` and `C` has the fields of the word, if it has its `OPC`. -/
theorem fields_eq_of_requireZeroABC {o : OpWord} {i j : Instr} {opc : Byte} (hopc : o.opc = opc)
    (h : requireZeroABC o i = .ok j) (hi : fields i = ⟨opc, 0, 0, 0⟩) : fields j = o := by
  obtain ⟨ha, hb, hc, rfl⟩ := requireZeroABC_eq_ok_iff.1 h
  rw [hi, OpWord.mk.injEq]
  exact ⟨hopc.symm, ha.symm, hb.symm, hc.symm⟩

theorem decodeFields_fields (i : Instr) : decodeFields (fields i) = .ok i := by
  cases i <;> rfl

/-- Every answer of the decoder has the fields of the word: one case per row of R61. -/
theorem fields_eq_of_decodeFields {o : OpWord} {i : Instr} (h : decodeFields o = .ok i) : fields i = o := by
  unfold decodeFields at h
  rcases ite_eq_iff.1 h with ⟨hopc, h⟩ | ⟨-, h⟩
  · exact fields_eq_of_requireZeroABC hopc h rfl
  rcases ite_eq_iff.1 h with ⟨hopc, h⟩ | ⟨-, h⟩
  · exact fields_eq_of_requireZeroBC hopc h rfl
  rcases ite_eq_iff.1 h with ⟨hopc, h⟩ | ⟨-, h⟩
  · exact fields_eq_of_requireZeroBC hopc h rfl
  rcases ite_eq_iff.1 h with ⟨hopc, h⟩ | ⟨-, h⟩
  · exact fields_eq_of_requireZeroABC hopc h rfl
  rcases ite_eq_iff.1 h with ⟨hopc, h⟩ | ⟨-, h⟩
  · exact fields_eq_of_requireZeroBC hopc h rfl
  rcases ite_eq_iff.1 h with ⟨hopc, h⟩ | ⟨-, h⟩
  · exact fields_eq_of_requireZeroABC hopc h rfl
  rcases ite_eq_iff.1 h with ⟨hopc, h⟩ | ⟨-, h⟩
  · exact fields_eq_of_requireZeroABC hopc h rfl
  rcases ite_eq_iff.1 h with ⟨hopc, h⟩ | ⟨-, h⟩
  · exact fields_eq_of_requireZeroABC hopc h rfl
  rcases ite_eq_iff.1 h with ⟨hopc, h⟩ | ⟨-, h⟩
  · rw [← Except.ok.inj h, fields, opcode, ← hopc]
  rcases ite_eq_iff.1 h with ⟨hopc, h⟩ | ⟨-, h⟩
  · rw [← Except.ok.inj h, fields, opcode, ← hopc]
  rcases ite_eq_iff.1 h with ⟨hopc, h⟩ | ⟨-, h⟩
  · rw [← Except.ok.inj h, fields, opcode, ← hopc]
  cases h

/-- A word decodes to the operation whose fields it has, and to no other. -/
theorem decode_eq_ok_iff {w : Word32} {i : Instr} : decode w = .ok i ↔ fields i = unpack w :=
  ⟨fields_eq_of_decodeFields, fun h => by rw [decode, ← h, decodeFields_fields]⟩

theorem encode_eq_iff {w : Word32} {i : Instr} : encode i = w ↔ fields i = unpack w :=
  ⟨fun h => by rw [← h, encode, unpack_pack], fun h => by rw [encode, h, pack_unpack]⟩

/-- Settles O1: decoding to an operation and being its encoding both say that the word has its fields. -/
theorem decodeAndEncodeAgree : Obligations.DecodeAndEncodeAgree :=
  ⟨fun _ => decode_eq_ok_iff.2 (encode_eq_iff.1 rfl), fun _ _ h => encode_eq_iff.2 (decode_eq_ok_iff.1 h)⟩

/-- Settles O4: eight fixed words, each decoded. -/
theorem wordsOfTheSpecDecode : Obligations.WordsOfTheSpecDecode := by
  unfold Obligations.WordsOfTheSpecDecode
  decide

/-! ### Legal words -/

@[simp] theorem fields_opc (i : Instr) : (fields i).opc = opcode i := by
  cases i <;> rfl

theorem exists_opcode_eq_iff {x : Byte} : (∃ i, opcode i = x) ↔ x ∈ legalOpcodes := by
  constructor
  · rintro ⟨i, rfl⟩
    cases i <;> simp [opcode, legalOpcodes]
  · simp only [legalOpcodes, List.mem_cons, List.not_mem_nil, or_false]
    rintro (rfl | rfl | rfl | rfl | rfl | rfl | rfl | rfl | rfl | rfl | rfl)
    exacts [⟨.cinit, rfl⟩, ⟨.cbyte 0, rfl⟩, ⟨.compute 0, rfl⟩, ⟨.fstart, rfl⟩, ⟨.fbyte 0, rfl⟩, ⟨.verify, rfl⟩,
      ⟨.decrd, rfl⟩, ⟨.decid, rfl⟩, ⟨.transact 0 0 0, rfl⟩, ⟨.rdsens 0 0 0, rfl⟩, ⟨.rduid 0 0 0, rfl⟩]

/-- R63 as a proposition: a legal opcode, and zero wherever R61 marks a field "0". -/
theorem wellFormed_iff {o : OpWord} : o.wellFormed = true ↔
    o.opc ∈ legalOpcodes ∧ (o.opc ∈ aMustBeZero → o.a = 0) ∧ (o.opc ∈ bcMustBeZero → o.b = 0 ∧ o.c = 0) := by
  simp only [OpWord.wellFormed, OpWord.opcodeOk, OpWord.aOk, OpWord.bOk, OpWord.cOk, Bool.and_eq_true, Bool.or_eq_true,
    Bool.not_eq_true', List.contains_iff_mem, beq_iff_eq, ← Bool.not_eq_true, ← imp_iff_not_or, imp_and, and_assoc]

/-- The operation in the row of `j` with the operand bytes of a word. -/
def Instr.withOperands (j : Instr) (o : OpWord) : Instr :=
  match j with
  | .cinit => .cinit
  | .cbyte _ => .cbyte o.a
  | .compute _ => .compute o.a
  | .fstart => .fstart
  | .fbyte _ => .fbyte o.a
  | .verify => .verify
  | .decrd => .decrd
  | .decid => .decid
  | .transact _ _ _ => .transact o.a o.b o.c
  | .rdsens _ _ _ => .rdsens o.a o.b o.c
  | .rduid _ _ _ => .rduid o.a o.b o.c

theorem fields_withOperands {o : OpWord} {j : Instr} (hopc : opcode j = o.opc) (ha : o.opc ∈ aMustBeZero → o.a = 0)
    (hbc : o.opc ∈ bcMustBeZero → o.b = 0 ∧ o.c = 0) : fields (j.withOperands o) = o := by
  rcases o with ⟨opc, a, b, c⟩
  subst hopc
  cases j with
  | cinit | fstart | verify | decrd | decid =>
    obtain rfl := ha (by simp [opcode, aMustBeZero])
    obtain ⟨rfl, rfl⟩ := hbc (by simp [opcode, bcMustBeZero])
    rfl
  | cbyte _ | compute _ | fbyte _ =>
    obtain ⟨rfl, rfl⟩ := hbc (by simp [opcode, bcMustBeZero])
    rfl
  | transact _ _ _ | rdsens _ _ _ | rduid _ _ _ => rfl

open Laws.OpcodeRow in
/-- Every operation's word is legal, and its own row applies to it. -/
theorem opcodeRow : ∀ i : Instr, Statement i
  | .cinit => cinit
  | .cbyte b => cbyte b
  | .compute n => compute n
  | .fstart => fstart
  | .fbyte b => fbyte b
  | .verify => verify
  | .decrd => decrd
  | .decid => decid
  | .transact c r n => transact c r n
  | .rdsens c r n => rdsens c r n
  | .rduid c r n => rduid c r n

/-- The legal words are exactly the words of the operations. -/
theorem wellFormed_iff_exists_fields {o : OpWord} : o.wellFormed = true ↔ ∃ i, fields i = o := by
  constructor
  · intro h
    obtain ⟨hopc, ha, hbc⟩ := wellFormed_iff.1 h
    obtain ⟨j, hj⟩ := exists_opcode_eq_iff.2 hopc
    exact ⟨j.withOperands o, fields_withOperands hj ha hbc⟩
  · rintro ⟨i, rfl⟩
    exact (opcodeRow i).1

theorem wellFormed_iff_exists_decode {w : Word32} : (unpack w).wellFormed = true ↔ ∃ i, decode w = .ok i := by
  simp only [decode_eq_ok_iff, wellFormed_iff_exists_fields]

theorem wellFormed_false_iff_exists_error {w : Word32} :
    (unpack w).wellFormed = false ↔ ∃ e, decode w = .error e := by
  rw [← Bool.not_eq_true, wellFormed_iff_exists_decode]
  cases decode w <;> simp

/-- Settles O2: the illegal words are those that decode to no operation, and a ready port takes one as R143 says. -/
theorem illegalWordsRaiseIllegalOp : Obligations.IllegalWordsRaiseIllegalOp := by
  refine ⟨fun w => wellFormed_false_iff_exists_error, ?_, rfl, rfl⟩
  intro w s hready hillegal
  obtain ⟨e, he⟩ := wellFormed_false_iff_exists_error.1 hillegal
  exact (Machine.presentWord_error he).trans (Machine.acceptOp_ready hready)

/-! ### The rows of the opcode table -/

/-- The mask byte of a field that R61 marks "0" for the opcodes of the list: covered there, open elsewhere. -/
def zeroMask (marked : List Byte) (opc : Byte) : Byte := if opc ∈ marked then 0xFF else 0

theorem and_zeroMask_eq_zero_iff {marked : List Byte} {opc x : Byte} :
    x &&& zeroMask marked opc = 0 ↔ (opc ∈ marked → x = 0) := by
  by_cases h : opc ∈ marked
  · rw [zeroMask, if_pos h, show x &&& 0xFF = x from BitVec.and_allOnes, imp_iff_right h]
  · rw [zeroMask, if_neg h, Laws.OpcodeRow.byte_and_zero]
    simp [h]

/-- The column `mask` covers `OPC` and the fields R61 marks "0". -/
theorem rowMask_eq_pack (j : Instr) : rowMask j = pack ⟨0xFF, zeroMask aMustBeZero (opcode j),
    zeroMask bcMustBeZero (opcode j), zeroMask bcMustBeZero (opcode j)⟩ := by
  cases j <;> simp only [rowMask, opcode] <;> decide

/-- The column `match` is the opcode, with every other field zero. -/
theorem rowMatch_eq_pack (j : Instr) : rowMatch j = pack ⟨opcode j, 0, 0, 0⟩ := by
  cases j <;> simp only [rowMatch, opcode] <;> decide

/-- A row of the table applies exactly to the legal words with its opcode. -/
theorem row_applies_iff {w : Word32} {j : Instr} :
    w &&& rowMask j = rowMatch j ↔ (unpack w).wellFormed = true ∧ (unpack w).opc = opcode j := by
  have hlegal : opcode j ∈ legalOpcodes := exists_opcode_eq_iff.1 ⟨j, rfl⟩
  have hopc : (unpack w).opc &&& 0xFF = (unpack w).opc := BitVec.and_allOnes
  conv_lhs => rw [← pack_unpack w, rowMask_eq_pack, rowMatch_eq_pack, pack_and, hopc]
  rw [(Function.Injective.eq_iff fun _ _ => pack_injective), OpWord.mk.injEq, and_zeroMask_eq_zero_iff,
    and_zeroMask_eq_zero_iff, and_zeroMask_eq_zero_iff, wellFormed_iff]
  grind

theorem exists_decode_opcode_iff {w : Word32} {j : Instr} : (∃ i, decode w = .ok i ∧ opcode i = opcode j) ↔
    (unpack w).wellFormed = true ∧ (unpack w).opc = opcode j := by
  have hopc : ∀ {i}, decode w = .ok i → opcode i = (unpack w).opc := fun h => by
    rw [← decode_eq_ok_iff.1 h, fields_opc]
  rw [wellFormed_iff_exists_decode]
  constructor
  · rintro ⟨i, hi, hj⟩
    exact ⟨⟨i, hi⟩, (hopc hi).symm.trans hj⟩
  · rintro ⟨⟨i, hi⟩, hj⟩
    exact ⟨i, hi, (hopc hi).trans hj⟩

/-- Settles O3: both sides say that the word is legal and has the row's opcode. -/
theorem tableRowsDecideTheWord : Obligations.TableRowsDecideTheWord := by
  refine ⟨fun w j => row_applies_iff.trans exists_decode_opcode_iff.symm, fun w j k hj hk => ?_⟩
  exact (row_applies_iff.1 hj).2.symm.trans (row_applies_iff.1 hk).2

end Sys2Proof
end

section
/-! PROOFS. What a presented word runs (O24, O25) and the `compute` stream (O46): local operations presented one after
another, for as long as no fault is raised. -/

namespace Sys2Proof.Machine

open Host (Outcome)

/-! ### The command port -/

/-- Settles O24. -/
theorem portNotReadyTakesNothing : Obligations.PortNotReadyTakesNothing := by
  refine ⟨ready_iff, fun s w rest hready hscript => ?_⟩
  rw [step_cons hscript]
  exact presentWord_notReady hready

theorem tableWord_toNat (w : Word32) : tableWord 32 w.toNat = w := by
  rw [tableWord, Nat.mod_eq_of_lt w.isLt, BitVec.ofNat_toNat, BitVec.setWidth_eq]

/-- Settles O25. -/
theorem stepRunsTheDecodedOperation : Obligations.StepRunsTheDecodedOperation := by
  have hstep : ∀ (s : State) (w : Word32) (i : Instr) (rest : List Event), s.script = .present w :: rest →
      decode w = .ok i → step s = exec i { s with script := rest } := fun s w i rest hscript hw => by
    rw [step_cons hscript]
    exact presentWord_ok hw
  refine ⟨hstep, fun s w i hw => ?_⟩
  rw [State.withFetchWord, tableWord_toNat]
  exact hstep (presentNext s w) w i s.script rfl hw

/-! ### Programs of operations -/

theorem runOps_cons {i : Instr} {ops : List Instr} {s u : State} (h : exec i s = .next u) :
    runOps (i :: ops) s = runOps ops u := by
  simp [runOps, h]

/-- On a port that is not ready a program changes nothing (R60). -/
theorem runOps_notReady (ops : List Instr) {s : State} (h : s.ready = false) : runOps ops s = .next s := by
  induction ops with
  | nil => rfl
  | cons i ops ih => rw [runOps_cons (exec_notReady h), ih]

/-- A local operation ends in the phase it was accepted in: IDLE (R50). -/
theorem bodyOf_ph_of_local {i : Instr} (hlocal : isSequencer i = false) {s : State} (h : s.ph = .idle) :
    (bodyOf i s).ph = .idle := by
  cases i with
  | compute n => rw [bodyOf, computeBody]; split <;> simp [h]
  | fbyte b => rw [bodyOf, fbyteBody]; split <;> simp [storeFrameByte, h]
  | verify => rw [bodyOf, verifyBody]; split <;> simp [compareFrame, h]
  | decrd => rw [bodyOf, decrdBody]; split <;> simp [h]
  | decid => rw [bodyOf, decidBody]; split <;> simp [h]
  | cinit | cbyte _ | fstart => exact h
  | transact _ _ _ | rdsens _ _ _ | rduid _ _ _ => cases hlocal

/-- After a local operation the port is ready again, unless a fault was raised. -/
theorem ready_bodyOf_of_local {i : Instr} (hlocal : isSequencer i = false) {s : State} (h : s.ph = .idle) :
    (bodyOf i s).ready = !(bodyOf i s).fault := by
  simp [State.ready, bodyOf_ph_of_local hlocal h]

/-- `ACC` after one operation: only CINIT, CBYTE and COMPUTE write it (R84 to R90), and CBYTE absorbs its byte. -/
theorem bodyOf_acc {i : Instr} (hcinit : i ≠ .cinit) (hcompute : ∀ n, i ≠ .compute n) (s : State) :
    (bodyOf i s).acc = (cbytes [i]).foldl crcByte s.acc := by
  cases i with
  | cinit => exact absurd rfl hcinit
  | compute n => exact absurd rfl (hcompute n)
  | fbyte b => rw [bodyOf, fbyteBody]; split <;> rfl
  | verify => rw [bodyOf, verifyBody]; split <;> rfl
  | decrd => rw [bodyOf, decrdBody]; split <;> rfl
  | decid => rw [bodyOf, decidBody]; split <;> rfl
  | cbyte _ | fstart | transact _ _ _ | rdsens _ _ _ | rduid _ _ _ => rfl

/-- `ACC` after a program of local operations without CINIT and COMPUTE that raised no fault. -/
theorem runOps_acc {ops : List Instr} (hops : ∀ i ∈ ops, isSequencer i = false ∧ i ≠ .cinit ∧ ∀ n, i ≠ .compute n)
    {s t : State} (hready : s.ready = true) (h : runOps ops s = .next t) (hfault : t.fault = false) :
    t.acc = (cbytes ops).foldl crcByte s.acc := by
  induction ops generalizing s with
  | nil => cases h; rfl
  | cons i ops ih =>
    obtain ⟨⟨hlocal, hcinit, hcompute⟩, hrest⟩ := List.forall_mem_cons.1 hops
    rw [runOps_cons (exec_ready hready)] at h
    set u := bodyOf i (acceptCommon (opcode i) s)
    have hu : u.ready = !u.fault := ready_bodyOf_of_local hlocal ((ready_iff s).1 hready).1
    have hacc : u.acc = (cbytes [i]).foldl crcByte s.acc := bodyOf_acc hcinit hcompute _
    cases huf : u.fault with
    | false =>
      rw [ih hrest (by rw [hu, huf]; rfl) h, hacc, ← List.foldl_append, cbytes, ← List.filterMap_append]
      rfl
    | true =>
      rw [runOps_notReady ops (by rw [hu, huf]; rfl), Outcome.next.injEq] at h
      rw [h, hfault] at huf
      cases huf

/-- Settles O46: CINIT puts `CRC_INIT` into `ACC`, and the rest absorbs the bytes. -/
theorem computeStreamSumsItsBytes : Obligations.ComputeStreamSumsItsBytes := by
  intro s t ops hready hops h hfault
  rw [runOps_cons (exec_ready hready)] at h
  exact runOps_acc (s := bodyOf .cinit (acceptCommon (opcode .cinit) s)) hops hready h hfault

end Sys2Proof.Machine
end

section
/-! PROOFS. The checksum (O6 to O8): one iteration of R80 is linear and loses nothing, so `crc_byte` is linear and a
bijection of the accumulator; a frame is valid exactly when all its bytes sum to zero, which no change of one byte
keeps. -/

namespace Sys2Proof.Machine

/-! ### One iteration -/

/-- What one iteration adds to the shifted value for the bit shifted out. -/
def feedback (bit : Bool) : Word16 := if bit then Config.crcPoly else 0

theorem feedback_xor : ∀ a b : Bool, feedback (a ^^ b) = feedback a ^^^ feedback b := by decide

/-- The polynomial's top bit is set. -/
theorem feedback_top : ∀ bit : Bool, (feedback bit).getLsbD 15 = bit := by decide

theorem crcBit_eq (x : Word16) : crcBit x = x >>> 1 ^^^ feedback (x.getLsbD 0) := by
  unfold crcBit feedback
  split
  · rfl
  · exact BitVec.xor_zero.symm

/-- The bit shifted out comes back at the top, where the shift leaves a zero. -/
theorem crcBit_top (x : Word16) : (crcBit x).getLsbD 15 = x.getLsbD 0 := by
  rw [crcBit_eq, BitVec.getLsbD_xor, feedback_top]
  simp

theorem crcBit_xor (x y : Word16) : crcBit (x ^^^ y) = crcBit x ^^^ crcBit y := by
  rw [crcBit_eq, crcBit_eq, crcBit_eq, BitVec.ushiftRight_xor_distrib, BitVec.getLsbD_xor, feedback_xor]
  ac_rfl

/-- The bit shifted out and the rest of the value can both be told from the result. -/
theorem crcBit_injective : Function.Injective crcBit := by
  intro x y hxy
  have hlow : x.getLsbD 0 = y.getLsbD 0 := by rw [← crcBit_top x, hxy, crcBit_top y]
  have hshift : x >>> 1 = y >>> 1 := by rwa [crcBit_eq, crcBit_eq, hlow, BitVec.xor_left_inj] at hxy
  refine BitVec.eq_of_getLsbD_eq fun k _ => ?_
  cases k with
  | zero => exact hlow
  | succ k => simpa [Nat.add_comm] using congrArg (BitVec.getLsbD · k) hshift

/-! ### Several iterations -/

theorem crcBits_xor (n : Nat) (x y : Word16) : crcBits n (x ^^^ y) = crcBits n x ^^^ crcBits n y := by
  induction n generalizing x y with
  | zero => rfl
  | succ n ih => rw [crcBits, crcBit_xor, ih, crcBits, crcBits]

theorem crcBits_injective (n : Nat) : Function.Injective (crcBits n) := by
  induction n with
  | zero => exact fun _ _ h => h
  | succ n ih => exact ih.comp crcBit_injective

/-- As long as only zeros are shifted out, the polynomial plays no part. -/
theorem crcBits_of_low_zero {n : Nat} {x : Word16} (h : ∀ k < n, x.getLsbD k = false) : crcBits n x = x >>> n := by
  induction n generalizing x with
  | zero => simp [crcBits]
  | succ n ih =>
    have hshift : ∀ k < n, (x >>> 1).getLsbD k = false := fun k hk => by
      simpa [Nat.add_comm] using h (k + 1) (Nat.succ_lt_succ hk)
    have hbit : crcBit x = x >>> 1 := by
      rw [crcBit_eq, h 0 n.succ_pos]
      exact BitVec.xor_zero
    rw [crcBits, hbit, ih hshift, ← BitVec.shiftRight_add, Nat.add_comm]

/-! ### One byte -/

/-- R84 item 5, in the accumulator. -/
theorem crcByte_injective (b : Byte) : Function.Injective fun acc => crcByte acc b :=
  fun _ _ h => (BitVec.xor_left_inj _).1 (crcBits_injective 8 h)

/-- R84 item 5, in the byte. -/
theorem crcByte_injective_byte (acc : Word16) : Function.Injective (crcByte acc) := fun b b' h => by
  have hwide : b.setWidth 16 = b'.setWidth 16 := (BitVec.xor_right_inj _).1 (crcBits_injective 8 h)
  simpa using congrArg (BitVec.setWidth 8) hwide

/-- Settles O6: an injective map of the accumulator to itself is a bijection, as there are finitely many values. -/
theorem crcByteIsLinearAndBijective : Obligations.CrcByteIsLinearAndBijective := by
  refine ⟨crc16_snoc, fun x y => ?_, fun acc b => ?_, fun b => (crcByte_injective b).bijective_of_finite,
    crcByte_injective_byte⟩
  · simp [crcByte, crcBits_xor]
  · simp [crcByte]

/-! ### The residue -/

/-- Absorbing the low byte of the accumulator leaves its high byte. -/
theorem crcByte_le16 (lo hi : Byte) : crcByte (le16 lo hi) lo = hi.setWidth 16 := by
  have hclear : le16 lo hi ^^^ lo.setWidth 16 = hi.setWidth 16 <<< 8 := by
    refine BitVec.eq_of_getLsbD_eq fun k _ => ?_
    have hlo : 8 ≤ k → lo.getLsbD k = false := BitVec.getLsbD_of_ge _ _
    simp only [le16, BitVec.getLsbD_xor, BitVec.getLsbD_or, BitVec.getLsbD_shiftLeft, BitVec.getLsbD_setWidth]
    grind
  rw [crcByte, hclear, crcBits_of_low_zero fun k hk => by simp [hk]]
  refine BitVec.eq_of_getLsbD_eq fun k hk => ?_
  simpa using fun _ (h : hi.getLsbD k = true) => Nat.add_lt_add_left (BitVec.lt_of_getLsbD h) 8

/-- Absorbing two more bytes gives zero exactly when they are the bytes of the accumulator, low byte first. -/
theorem crcByte_crcByte_eq_zero_iff {acc : Word16} {lo hi : Byte} :
    crcByte (crcByte acc lo) hi = 0 ↔ acc = le16 lo hi := by
  have hself : crcByte (crcByte (le16 lo hi) lo) hi = 0 := by
    rw [crcByte_le16, crcByte, BitVec.xor_self]
    rfl
  rw [← hself, (crcByte_injective hi).eq_iff, (crcByte_injective lo).eq_iff]

theorem crc16_append_pair (bytes : List Byte) (lo hi : Byte) :
    crc16 (bytes ++ [lo, hi]) = crcByte (crcByte (crc16 bytes) lo) hi := by
  simp [crc16]

theorem frame_toList_eq (f : Frame) : f.toList = summedPart f ++ [f[6], f[7]] := by
  rcases f with ⟨⟨l⟩, h⟩
  match l, h with
  | [_, _, _, _, _, _, _, _], _ => rfl

theorem frameValid_iff_residue (f : Frame) : frameValid f = true ↔ crc16 f.toList = 0 := by
  rw [frameValid_iff, frame_toList_eq, crc16_append_pair, crcByte_crcByte_eq_zero_iff, receivedCrc]

theorem le16_extractLsb' (x : Word16) : le16 (x.extractLsb' 0 8) (x.extractLsb' 8 8) = x := by
  rw [le16_eq_append]
  exact (BitVec.extractLsb'_append_extractLsb'_eq_extractLsb' rfl).trans BitVec.extractLsb'_eq_self

/-- Settles O7: the two bytes appended are those of the checksum, and a valid frame is a sequence so extended. -/
theorem zeroResidue : Obligations.ZeroResidue := by
  refine ⟨fun bytes => ?_, frameValid_iff_residue⟩
  rw [crc16_append_pair, crcByte_crcByte_eq_zero_iff, le16_extractLsb']

/-! ### One changed byte -/

theorem foldl_crcByte_injective (bytes : List Byte) : Function.Injective fun acc => bytes.foldl crcByte acc := by
  induction bytes with
  | nil => exact fun _ _ h => h
  | cons b bytes ih => exact ih.comp (crcByte_injective b)

/-- Replacing one byte keeps the checksum only if the byte stays as it was: the bytes before it give the same
accumulator to both sides, and the bytes after it are absorbed injectively. -/
theorem eq_getElem_of_crc16_set {bytes : List Byte} {k : Nat} (hk : k < bytes.length) {b : Byte}
    (h : crc16 (bytes.set k b) = crc16 bytes) : b = bytes[k] := by
  have hsplit : bytes = bytes.take k ++ bytes[k] :: bytes.drop (k + 1) := by
    rw [← List.drop_eq_getElem_cons hk, List.take_append_drop]
  rw [List.set_eq_take_append_cons_drop, if_pos hk] at h
  replace h := h.trans (congrArg crc16 hsplit)
  rw [crc16, crc16, List.foldl_append, List.foldl_append] at h
  exact crcByte_injective_byte _ (foldl_crcByte_injective (bytes.drop (k + 1)) h)

/-- Settles O8: two valid frames both sum to zero, and frames that differ in one byte have different sums. -/
theorem singleByteChangeIsDetected : Obligations.SingleByteChangeIsDetected := by
  intro f k hk b hvalid hb
  refine Bool.eq_false_iff.2 fun hset => hb ?_
  rw [frameValid_iff_residue] at hvalid hset
  rw [Vector.toList_set] at hset
  exact (eq_getElem_of_crc16_set (by simpa using hk) (hset.trans hvalid.symm)).trans (by simp)

end Sys2Proof.Machine
end

section
/-! PROOFS. The six operations of the checksum validator: each as an equation on a ready port (O9 to O14), and what they
leave unchanged (O20, O21). -/

namespace Sys2Proof.Machine

open Host (Outcome)

/-! ### The words of the operations -/

/-- What R61 and R63 ask of the words with one opcode: where `zero` holds the word has the fields of its operation, and
no other word with this opcode is legal. -/
theorem WordMeans.of_fields {opc : Byte} {zero : Byte → Byte → Byte → Prop} {op : Byte → Byte → Byte → Instr}
    (hlegal : ∀ a b c, zero a b c → fields (op a b c) = ⟨opc, a, b, c⟩)
    (hillegal : ∀ a b c, (OpWord.mk opc a b c).wellFormed = true → zero a b c) : WordMeans opc zero op := by
  intro s a b c hready
  constructor
  · intro hzero
    exact presentWord_ok (decode_eq_ok_iff.2 (by rw [hlegal a b c hzero, unpack_pack]))
  · intro hzero
    have hbad : (unpack (pack ⟨opc, a, b, c⟩)).wellFormed = false := by
      rw [unpack_pack]
      exact Bool.eq_false_iff.2 (mt (hillegal a b c) hzero)
    obtain ⟨-, hraise, -⟩ := illegalWordsRaiseIllegalOp
    rw [hraise _ s hready hbad]
    exact congrArg (fun o : OpWord => Outcome.next (endedInFault o.opc .illegalOp s)) (unpack_pack ⟨opc, a, b, c⟩)

/-- The words of an operation without operands. -/
theorem wordMeans_noOperand {opc : Byte} {i : Instr} (hi : fields i = ⟨opc, 0, 0, 0⟩)
    (ha : opc ∈ aMustBeZero := by decide) (hbc : opc ∈ bcMustBeZero := by decide) :
    WordMeans opc (fun a b c => a = 0 ∧ b = 0 ∧ c = 0) (fun _ _ _ => i) := by
  refine .of_fields ?_ ?_
  · rintro _ _ _ ⟨rfl, rfl, rfl⟩
    exact hi
  · intro a b c h
    obtain ⟨-, hzeroA, hzeroBC⟩ := wellFormed_iff.1 h
    exact ⟨hzeroA ha, hzeroBC hbc⟩

/-- The words of an operation with one operand byte. -/
theorem wordMeans_byteOperand {opc : Byte} {op : Byte → Instr} (hop : ∀ a, fields (op a) = ⟨opc, a, 0, 0⟩)
    (hbc : opc ∈ bcMustBeZero := by decide) :
    WordMeans opc (fun _ b c => b = 0 ∧ c = 0) (fun a _ _ => op a) := by
  refine .of_fields ?_ ?_
  · rintro a _ _ ⟨rfl, rfl⟩
    exact hop a
  · intro a b c h
    obtain ⟨-, -, hzeroBC⟩ := wellFormed_iff.1 h
    exact hzeroBC hbc

/-! ### The operations on a ready port -/

section

variable {s : State}

theorem exec_cinit (h : s.ready = true) : exec .cinit s = .next { endedWell 0x01 s with acc := 0xFFFF } :=
  exec_ready h

theorem exec_cbyte (h : s.ready = true) (b : Byte) :
    exec (.cbyte b) s = .next { endedWell 0x02 s with acc := crcByte s.acc b } :=
  exec_ready h

theorem exec_compute (h : s.ready = true) {n : Byte} (hn : n.toNat ≤ s.cnt.val) :
    exec (.compute n) s = .next { endedWell 0x03 s with acc := crc16 (s.fb.toList.take n.toNat) } :=
  (exec_ready h).trans (congrArg Outcome.next (if_neg (Nat.not_lt.2 hn)))

theorem exec_compute_fault (h : s.ready = true) {n : Byte} (hn : s.cnt.val < n.toNat) :
    exec (.compute n) s = .next (endedInFault 0x03 .invariant s) :=
  (exec_ready h).trans (congrArg Outcome.next (if_pos hn))

theorem exec_fstart (h : s.ready = true) :
    exec .fstart s = .next { endedWell 0x04 s with cnt := 0, facc := 0xFFFF, fv := false, v := false } :=
  exec_ready h

/-- FBYTE where the buffer is not full. -/
theorem fbyteBody_of_lt (b : Byte) (hlt : s.cnt.val < 8) : fbyteBody b s = finish (storeFrameByte b s hlt) :=
  dif_pos hlt

/-- FBYTE where the buffer is not full, as a whole operation. -/
theorem exec_fbyte_of_lt (h : s.ready = true) (b : Byte) (hlt : s.cnt.val < 8) :
    exec (.fbyte b) s = .next (storeFrameByte b (endedWell 0x05 s) hlt) :=
  (exec_ready h).trans (congrArg Outcome.next (fbyteBody_of_lt (s := acceptCommon _ s) b hlt))

theorem frameSum_of_lt {k : Nat} (hk : k < 6) (facc : Word16) (b : Byte) : frameSum k facc b = crcByte facc b :=
  if_pos hk

/-- FBYTE before the last byte of a frame. -/
theorem exec_fbyte_early (h : s.ready = true) (b : Byte) {k : Nat} (hk : s.cnt.val = k) (hlt : k < 7) :
    exec (.fbyte b) s = .next { endedWell 0x05 s with
      fb := s.fb.set k b (by omega), facc := frameSum k s.facc b, cnt := Fin.ofNat 9 (k + 1) } := by
  subst hk
  have hcnt : ∀ hsucc : s.cnt.val + 1 < 9, (⟨s.cnt.val + 1, hsucc⟩ : Fin 9) = Fin.ofNat 9 (s.cnt.val + 1) :=
    fun hsucc => Fin.ext (Nat.mod_eq_of_lt hsucc).symm
  rw [exec_fbyte_of_lt h b (by omega)]
  simp [storeFrameByte, endedWell, hcnt, hlt.ne]

/-- FBYTE at the last byte of a frame. -/
theorem exec_fbyte_last (h : s.ready = true) (b : Byte) (hk : s.cnt.val = 7) :
    exec (.fbyte b) s = .next { endedWell 0x05 s with
      fb := s.fb.set 7 b, cnt := 8, fv := true, v := s.facc == le16 s.fb[6] b } := by
  rw [exec_fbyte_of_lt h b (by omega)]
  simp [storeFrameByte, endedWell, frameSum, hk]

/-- FBYTE on a full buffer. -/
theorem exec_fbyte_full (h : s.ready = true) (b : Byte) (hk : s.cnt.val = 8) :
    exec (.fbyte b) s = .next { endedWell 0x05 s with fv := false, v := false, err := true, cause := .length } := by
  have hph : s.ph = .idle := ((ready_iff s).1 h).1
  rw [exec_ready h, bodyOf, fbyteBody, dif_neg (by simp [hk])]
  simp [raiseComm, endedWell, acceptCommon, opcode, hph]

theorem exec_verify (h : s.ready = true) (hfv : s.fv = true) :
    exec .verify s = .next (compareFrame (endedWell 0x06 s)) :=
  (exec_ready h).trans (congrArg Outcome.next (if_pos hfv))

theorem exec_verify_fault (h : s.ready = true) (hfv : s.fv = false) :
    exec .verify s = .next (endedInFault 0x06 .invariant s) :=
  (exec_ready h).trans (congrArg Outcome.next (if_neg (by simp [hfv])))

end

/-! ### The operations and their words -/

/-- Settles O9. -/
theorem cinitStartsAChecksum : Obligations.CinitStartsAChecksum :=
  ⟨fun _ => exec_cinit, wordMeans_noOperand rfl⟩

/-- Settles O10. -/
theorem cbyteAbsorbsAByte : Obligations.CbyteAbsorbsAByte :=
  ⟨fun _ b h => exec_cbyte h b, wordMeans_byteOperand fun _ => rfl⟩

/-- Settles O11. -/
theorem computeSumsTheFirstBytes : Obligations.ComputeSumsTheFirstBytes :=
  ⟨fun _ _ h => exec_compute h, fun _ _ h => exec_compute_fault h, wordMeans_byteOperand fun _ => rfl⟩

/-- Settles O12. -/
theorem fstartEmptiesTheFrame : Obligations.FstartEmptiesTheFrame :=
  ⟨fun _ => exec_fstart, wordMeans_noOperand rfl⟩

/-- Settles O13: one equation before the last byte, one at it and one beyond. -/
theorem fbyteAccumulatesAndCompares : Obligations.FbyteAccumulatesAndCompares := by
  refine ⟨fun s b k h hready hk hsummed => ?_, fun s b hready hk => exec_fbyte_early hready b hk (by decide),
    fun s b hready => exec_fbyte_last hready b, fun s b hready => exec_fbyte_full hready b,
    wordMeans_byteOperand fun _ => rfl⟩
  rw [exec_fbyte_early hready b hk (by omega), frameSum_of_lt hsummed]

/-- Settles O14: a second VERIFY computes the same from the same frame, and after a fault it is not taken. -/
theorem verifyJudgesTheFrame : Obligations.VerifyJudgesTheFrame := by
  refine ⟨fun s hready hfv => ?_, fun s => exec_verify_fault, fun s t h => ?_, wordMeans_noOperand rfl⟩
  · rw [exec_verify hready hfv, ← summedPart_eq]
    rfl
  · rcases exec_cases h with ⟨hready, -⟩ | ⟨-, rfl⟩
    · cases hfv : s.fv with
      | true =>
        cases (exec_verify hready hfv).symm.trans h
        exact exec_verify hready hfv
      | false =>
        cases (exec_verify_fault hready hfv).symm.trans h
        exact exec_notReady ((ready_false_iff _).2 (.inr rfl))
    · exact h

/-! ### What the operations leave unchanged -/

/-- `s` with the report registers of `t`: those that accept-common and the end of an operation write (R111,
R142, R143). -/
def State.withReportOf (s t : State) : State :=
  { s with
    opr := t.opr, done := t.done, err := t.err, fault := t.fault, cause := t.cause, eph := t.eph, edesc := t.edesc }

/-- A sticky fault raised by an operation writes the report registers only: a ready port is already in IDLE. -/
theorem endedInFault_eq {s : State} (h : s.ready = true) (opc : Byte) (c : Cause) :
    endedInFault opc c s = s.withReportOf (endedInFault opc c s) := by
  simp [State.withReportOf, endedInFault, ((ready_iff s).1 h).1]

/-- Every register CINIT, CBYTE and COMPUTE can write. -/
theorem computeOperation_writes {i : Instr} {s t : State} (hi : i = .cinit ∨ (∃ b, i = .cbyte b) ∨ ∃ n, i = .compute n)
    (h : exec i s = .next t) :
    t = { s.withReportOf t with acc := t.acc } ∧ (t.fault = s.fault ∨ ∃ n, i = .compute n) := by
  rcases exec_cases h with ⟨hready, -⟩ | ⟨-, rfl⟩
  case inr => exact ⟨rfl, .inl rfl⟩
  rcases hi with rfl | ⟨b, rfl⟩ | ⟨n, rfl⟩
  · cases (exec_cinit hready).symm.trans h
    exact ⟨rfl, .inl rfl⟩
  · cases (exec_cbyte hready b).symm.trans h
    exact ⟨rfl, .inl rfl⟩
  · refine ⟨?_, .inr ⟨n, rfl⟩⟩
    rcases Nat.lt_or_ge s.cnt.val n.toNat with hn | hn
    · cases (exec_compute_fault hready hn).symm.trans h
      exact endedInFault_eq hready _ _
    · cases (exec_compute hready hn).symm.trans h
      rfl

/-- Settles O20: the registers named are none of those written. -/
theorem computeOperationsFrame : Obligations.ComputeOperationsFrame := by
  intro i s t hi h
  obtain ⟨ht, hfault⟩ := computeOperation_writes hi h
  rw [ht]
  exact ⟨rfl, fun _ _ => rfl, rfl, rfl, rfl, rfl, rfl, rfl, rfl, rfl, rfl, rfl, rfl, rfl, rfl, rfl, rfl, hfault, rfl,
    rfl, rfl, rfl⟩

/-- Every register FSTART, FBYTE and VERIFY can write. -/
theorem frameOperation_writes {i : Instr} {s t : State} (hi : i = .fstart ∨ (∃ b, i = .fbyte b) ∨ i = .verify)
    (h : exec i s = .next t) :
    t = { s.withReportOf t with fb := t.fb, cnt := t.cnt, facc := t.facc, fv := t.fv, v := t.v } ∧
    (∀ (k : Nat) (h : k < 8), ¬((∃ b, i = .fbyte b) ∧ k = s.cnt.val) → t.fb[k] = s.fb[k]) ∧
    (i = .verify → t.cnt = s.cnt ∧ t.fv = s.fv) ∧ (i ≠ .verify → t.fault = s.fault) := by
  rcases exec_cases h with ⟨hready, -⟩ | ⟨-, rfl⟩
  case inr => exact ⟨rfl, fun _ _ _ => rfl, fun _ => ⟨rfl, rfl⟩, fun _ => rfl⟩
  rcases hi with rfl | ⟨b, rfl⟩ | rfl
  · cases (exec_fstart hready).symm.trans h
    exact ⟨rfl, fun _ _ _ => rfl, nofun, fun _ => rfl⟩
  · rcases Nat.lt_or_ge s.cnt.val 8 with hlt | hge
    · cases (exec_fbyte_of_lt hready b hlt).symm.trans h
      exact ⟨rfl, fun k hk hne => Vector.getElem_set_ne hlt hk fun hcnt => hne ⟨⟨b, rfl⟩, hcnt.symm⟩, nofun,
        fun _ => rfl⟩
    · cases (exec_fbyte_full hready b (by omega)).symm.trans h
      exact ⟨rfl, fun _ _ _ => rfl, nofun, fun _ => rfl⟩
  · cases hfv : s.fv with
    | true =>
      cases (exec_verify hready hfv).symm.trans h
      exact ⟨rfl, fun _ _ _ => rfl, fun _ => ⟨rfl, hfv⟩, fun hne => absurd rfl hne⟩
    | false =>
      cases (exec_verify_fault hready hfv).symm.trans h
      exact ⟨endedInFault_eq hready _ _, fun _ _ _ => rfl, fun _ => ⟨rfl, hfv⟩, fun hne => absurd rfl hne⟩

/-- Settles O21: the registers named are none of those written. -/
theorem frameOperationsFrame : Obligations.FrameOperationsFrame := by
  intro i s t hi h
  obtain ⟨ht, hfb, hverify, hfault⟩ := frameOperation_writes hi h
  rw [ht]
  exact ⟨rfl, hfb, rfl, rfl, rfl, rfl, rfl, rfl, rfl, rfl, rfl, rfl, rfl, rfl, hverify, hfault, rfl, rfl, rfl, rfl⟩

end Sys2Proof.Machine
end

section
/-! PROOFS. Frame accumulation (O45): what a program of local operations has stored and judged since its FSTART. -/

namespace Sys2Proof.Machine

/-- These bytes have been fed to an emptied frame buffer and stored (R88, R89): `FACC` sums the first six of them, and
once they are eight the frame is complete and judged. -/
structure Accumulated (bytes : List Byte) (s : State) : Prop where
  stored : s.fb.toList.take s.cnt.val = bytes
  facc : s.facc = crc16 (s.fb.toList.take (min s.cnt.val 6))
  fv : s.fv = (s.cnt.val == 8)
  v : s.v = (s.fv && frameValid s.fb)

namespace Accumulated

variable {bytes : List Byte} {s : State}

theorem cnt (h : Accumulated bytes s) : s.cnt.val = bytes.length := by
  rw [← h.stored, List.length_take, Vector.length_toList]
  omega

/-- FBYTE (R89). -/
theorem storeFrameByte (h : Accumulated bytes s) (b : Byte) (hlt : s.cnt.val < 8) :
    Accumulated (bytes ++ [b]) (storeFrameByte b s hlt) where
  stored := by rw [← h.stored]; exact take_succ_set s.fb s.cnt.val hlt b
  facc := (congrArg (frameSum s.cnt.val · b) h.facc).trans (frameSum_crc16_take s.fb s.cnt.val hlt b)
  fv := by simp [Machine.storeFrameByte, h.fv, hlt.ne]
  v := by
    by_cases hlast : s.cnt.val = 7
    · have hsum : s.facc = crc16 (summedPart s.fb) := by rw [h.facc, hlast]; rfl
      have hjudge : (s.facc == le16 s.fb[6] b) = frameValid (s.fb.set s.cnt.val b hlt) := by
        rw [frameValid, receivedCrc_set_last s.fb _ hlt hlast, summedPart_set s.fb _ hlt (by omega), hsum]
      simpa [Machine.storeFrameByte, frameSum, hlast] using hjudge
    · have hfv : s.fv = false := by simpa [h.fv] using hlt.ne
      simp [Machine.storeFrameByte, h.v, hfv, beq_false_of_ne hlast]

/-- VERIFY (R90). -/
theorem compareFrame (h : Accumulated bytes s) (hfv : s.fv = true) : Accumulated bytes (compareFrame s) where
  stored := h.stored
  facc := by
    have hcnt : s.cnt.val = 8 := by simpa [h.fv] using hfv
    simp [summedPart_take, hcnt]
  fv := h.fv
  v := by simp [hfv]

/-- FBYTE adds its byte, and no other local operation but FSTART changes what has been accumulated. -/
theorem bodyOf {i : Instr} (h : Accumulated bytes s) (hlocal : isSequencer i = false) (hi : i ≠ .fstart)
    (hroom : (bytes ++ fbytes [i]).length ≤ 8) : Accumulated (bytes ++ fbytes [i]) (bodyOf i s) := by
  have hnone : Accumulated (bytes ++ []) s := by rwa [List.append_nil]
  cases i with
  | fstart => exact absurd rfl hi
  | transact _ _ _ | rdsens _ _ _ | rduid _ _ _ => cases hlocal
  | fbyte b =>
    have hlt : s.cnt.val < 8 := by rw [h.cnt]; simpa [fbytes] using hroom
    rw [Machine.bodyOf, fbyteBody_of_lt b hlt]
    exact { h.storeFrameByte b hlt with }
  | verify =>
    rw [Machine.bodyOf, verifyBody]
    split
    case isTrue hfv => exact { hnone.compareFrame hfv with }
    case isFalse => exact { hnone with }
  | cinit | cbyte _ => exact { hnone with }
  | compute _ => rw [Machine.bodyOf, computeBody]; split <;> exact { hnone with }
  | decrd => rw [Machine.bodyOf, decrdBody]; split <;> exact { hnone with }
  | decid => rw [Machine.bodyOf, decidBody]; split <;> exact { hnone with }

end Accumulated

/-- In a program that raises no fault, each local operation leaves the port ready for the rest. -/
theorem runOps_cons_of_local {i : Instr} {ops : List Instr} {s t : State} (hlocal : isSequencer i = false)
    (hready : s.ready = true) (h : runOps (i :: ops) s = .next t) (hfault : t.fault = false) :
    (bodyOf i (acceptCommon (opcode i) s)).ready = true ∧
      runOps ops (bodyOf i (acceptCommon (opcode i) s)) = .next t := by
  rw [runOps_cons (exec_ready hready)] at h
  refine ⟨Decidable.by_contra fun hstuck => ?_, h⟩
  rw [Bool.not_eq_true] at hstuck
  rw [runOps_notReady ops hstuck] at h
  cases h
  rw [ready_bodyOf_of_local (s := acceptCommon _ s) hlocal ((ready_iff s).1 hready).1, hfault] at hstuck
  cases hstuck

/-- A program that raises no fault adds its FBYTE bytes. -/
theorem Accumulated.runOps {ops : List Instr} {bytes : List Byte} {s t : State} (hs : Accumulated bytes s)
    (hops : ∀ i ∈ ops, isSequencer i = false ∧ i ≠ .fstart) (hroom : (bytes ++ fbytes ops).length ≤ 8)
    (hready : s.ready = true) (h : runOps ops s = .next t) (hfault : t.fault = false) :
    Accumulated (bytes ++ fbytes ops) t := by
  induction ops generalizing s bytes with
  | nil =>
    cases h
    rwa [show bytes ++ fbytes [] = bytes from List.append_nil bytes]
  | cons i ops ih =>
    obtain ⟨⟨hlocal, hi⟩, hrest⟩ := List.forall_mem_cons.1 hops
    obtain ⟨hready', h'⟩ := runOps_cons_of_local hlocal hready h hfault
    have hsplit : bytes ++ fbytes (i :: ops) = bytes ++ fbytes [i] ++ fbytes ops := by
      rw [List.append_assoc, fbytes, ← List.filterMap_append]
      rfl
    rw [hsplit] at hroom ⊢
    have hacc : Accumulated bytes (acceptCommon (opcode i) s) := { hs with }
    refine ih (hacc.bodyOf hlocal hi ?_) hrest hroom hready' h'
    exact (List.prefix_append _ _).length_le.trans hroom

/-- Settles O45: FSTART leaves nothing accumulated, and the rest adds the eight bytes of the frame. -/
theorem frameAccumulationJudgesTheFrame : Obligations.FrameAccumulationJudgesTheFrame := by
  intro s t ops f hready hops hbytes h hfault
  obtain ⟨hready', h'⟩ := runOps_cons_of_local rfl hready h hfault
  have hempty : Accumulated [] (bodyOf .fstart (acceptCommon (opcode .fstart) s)) := ⟨rfl, rfl, rfl, rfl⟩
  have hacc : Accumulated f.toList t := hbytes ▸ hempty.runOps hops (by simp [hbytes]) hready' h' hfault
  have hcnt : t.cnt = 8 := Fin.ext (by simpa using hacc.cnt)
  have hfb : t.fb = f := by
    have hstored := hacc.stored
    rw [hcnt, List.take_of_length_le (by simp)] at hstored
    exact Vector.toList_inj.1 hstored
  have hfv : t.fv = true := by rw [hacc.fv, hcnt]; rfl
  refine ⟨?_, hfb, hcnt, hfv, ?_⟩
  · rw [hacc.facc, hcnt, hfb]; rfl
  · rw [hacc.v, hfv, hfb]; rfl

end Sys2Proof.Machine
end

section
/-! PROOFS. The two operations of the reading decoder: each as an equation on a ready port (O15, O16), what they leave
unchanged (O22), and where a reading or an identifier can come from in any step (O51). -/

namespace Sys2Proof.Machine

open Host (Outcome)

/-! ### The operations on a ready port -/

section

variable {s : State}

theorem exec_decrd (h : s.ready = true) (hfv : s.fv = true) (hv : s.v = true) :
    exec .decrd s = .next { endedWell 0x08 s with
      hum := be16 s.fb[2] s.fb[3], tmp := be16 s.fb[4] s.fb[5], rv := true } :=
  (exec_ready h).trans (congrArg Outcome.next (if_pos (by simp [hfv, hv])))

theorem exec_decrd_fault (h : s.ready = true) (hbad : s.fv = false ∨ s.v = false) :
    exec .decrd s = .next (endedInFault 0x08 .invariant s) :=
  (exec_ready h).trans (congrArg Outcome.next (if_neg (by simpa [imp_iff_not_or] using hbad)))

theorem exec_decid (h : s.ready = true) (hfv : s.fv = true) (hv : s.v = true) :
    exec .decid s = .next { endedWell 0x09 s with
      uid := be32 s.fb[2] s.fb[3] s.fb[4] s.fb[5], uv := true } :=
  (exec_ready h).trans (congrArg Outcome.next (if_pos (by simp [hfv, hv])))

theorem exec_decid_fault (h : s.ready = true) (hbad : s.fv = false ∨ s.v = false) :
    exec .decid s = .next (endedInFault 0x09 .invariant s) :=
  (exec_ready h).trans (congrArg Outcome.next (if_neg (by simpa [imp_iff_not_or] using hbad)))

end

/-- Settles O15. -/
theorem decrdDecodesAReading : Obligations.DecrdDecodesAReading :=
  ⟨fun _ => exec_decrd, fun _ => exec_decrd_fault, wordMeans_noOperand rfl⟩

/-- Settles O16. -/
theorem decidDecodesAnIdentifier : Obligations.DecidDecodesAnIdentifier :=
  ⟨fun _ => exec_decid, fun _ => exec_decid_fault, wordMeans_noOperand rfl⟩

/-! ### What the operations leave unchanged -/

/-- Every register DECRD and DECID can write. -/
theorem decodeOperation_writes {i : Instr} {s t : State} (hi : i = .decrd ∨ i = .decid) (h : exec i s = .next t) :
    t = { s.withReportOf t with hum := t.hum, tmp := t.tmp, rv := t.rv, uid := t.uid, uv := t.uv } ∧
    (i = .decid → t.hum = s.hum ∧ t.tmp = s.tmp ∧ t.rv = s.rv) ∧ (i = .decrd → t.uid = s.uid ∧ t.uv = s.uv) := by
  rcases exec_cases h with ⟨hready, -⟩ | ⟨-, rfl⟩
  case inr => exact ⟨rfl, fun _ => ⟨rfl, rfl, rfl⟩, fun _ => ⟨rfl, rfl⟩⟩
  have hvalidated : (s.fv = true ∧ s.v = true) ∨ s.fv = false ∨ s.v = false := by cases s.fv <;> simp
  rcases hi with rfl | rfl <;> rcases hvalidated with ⟨hfv, hv⟩ | hbad
  · cases (exec_decrd hready hfv hv).symm.trans h
    exact ⟨rfl, nofun, fun _ => ⟨rfl, rfl⟩⟩
  · cases (exec_decrd_fault hready hbad).symm.trans h
    exact ⟨endedInFault_eq hready _ _, nofun, fun _ => ⟨rfl, rfl⟩⟩
  · cases (exec_decid hready hfv hv).symm.trans h
    exact ⟨rfl, fun _ => ⟨rfl, rfl, rfl⟩, nofun⟩
  · cases (exec_decid_fault hready hbad).symm.trans h
    exact ⟨endedInFault_eq hready _ _, fun _ => ⟨rfl, rfl, rfl⟩, nofun⟩

/-- Settles O22: the registers named are none of those written. -/
theorem decodeOperationsFrame : Obligations.DecodeOperationsFrame := by
  intro i s t hi h
  obtain ⟨ht, hdecid, hdecrd⟩ := decodeOperation_writes hi h
  rw [ht]
  exact ⟨rfl, rfl, fun _ _ => rfl, rfl, hdecid, hdecrd, rfl, rfl, rfl, rfl, rfl, rfl, rfl, rfl, rfl, rfl, rfl, rfl, rfl⟩

/-! ### Where a reading and an identifier come from -/

/-- The registers that hold the decoded values, with their flags (R14, R15, R20). -/
structure DecodedValues where
  hum : Word16
  tmp : Word16
  rv : Bool
  uid : Word32
  uv : Bool

/-- The decoded values of a state. -/
def State.values (s : State) : DecodedValues := ⟨s.hum, s.tmp, s.rv, s.uid, s.uv⟩

@[simp] theorem takeChoice_values (s : State) : (takeChoice s).values = s.values := by simp [State.values]

/-- Everything a step but reset can make of the decoded values `v` while `f` is in the frame buffer: a valid frame is
decoded into them (R105, R106, R118), or a flag is cleared (R119, R120), or they are kept. -/
inductive ValuesStep (f : Frame) (v : DecodedValues) : DecodedValues → Prop where
  | kept : ValuesStep f v v
  | readingInvalidated : ValuesStep f v { v with rv := false }
  | uidInvalidated : ValuesStep f v { v with uv := false }
  | reading : frameValid f = true →
      ValuesStep f v { v with hum := (frameReading f).humidity, tmp := (frameReading f).temperature, rv := true }
  | identifier : frameValid f = true → ValuesStep f v { v with uid := frameUid f, uv := true }

/-- A reading that is changed or newly marked valid is the one in a valid frame. -/
theorem ValuesStep.reading_of_changed {f : Frame} {v w : DecodedValues} (h : ValuesStep f v w)
    (hchanged : w.hum ≠ v.hum ∨ w.tmp ≠ v.tmp ∨ (w.rv = true ∧ v.rv = false)) :
    frameValid f = true ∧ w.hum = be16 f[2] f[3] ∧ w.tmp = be16 f[4] f[5] ∧ w.rv = true := by
  cases h with
  | reading hvalid => exact ⟨hvalid, rfl, rfl, rfl⟩
  | kept | readingInvalidated | uidInvalidated | identifier _ => simp at hchanged

/-- An identifier that is changed or newly marked valid is the one in a valid frame. -/
theorem ValuesStep.identifier_of_changed {f : Frame} {v w : DecodedValues} (h : ValuesStep f v w)
    (hchanged : w.uid ≠ v.uid ∨ (w.uv = true ∧ v.uv = false)) :
    frameValid f = true ∧ w.uid = be32 f[2] f[3] f[4] f[5] ∧ w.uv = true := by
  cases h with
  | identifier hvalid => exact ⟨hvalid, rfl, rfl⟩
  | kept | readingInvalidated | uidInvalidated | reading _ => simp at hchanged

/-- A frame that counts as validated is valid (I4). -/
theorem State.Inv.frameValid {s : State} (h : s.Inv) (hv : s.v = true) : frameValid s.fb = true :=
  (frameValid_iff s.fb).2 (h.frame.valid hv).1

/-- The local effect of every operation on the decoded values. -/
theorem bodyOf_values {s : State} (hvalid : s.v = true → frameValid s.fb = true) (i : Instr) :
    ValuesStep s.fb s.values (bodyOf i s).values := by
  cases i with
  | decrd =>
    rw [bodyOf, decrdBody]
    split
    case isTrue hv => exact .reading (hvalid (Bool.and_eq_true_iff.1 hv).2)
    case isFalse => exact .kept
  | decid =>
    rw [bodyOf, decidBody]
    split
    case isTrue hv => exact .identifier (hvalid (Bool.and_eq_true_iff.1 hv).2)
    case isFalse => exact .kept
  | compute _ => rw [bodyOf, computeBody]; split <;> exact .kept
  | fbyte _ => rw [bodyOf, fbyteBody]; split <;> exact .kept
  | verify => rw [bodyOf, verifyBody]; split <;> exact .kept
  | rdsens _ _ _ => exact .readingInvalidated
  | rduid _ _ _ => exact .uidInvalidated
  | cinit | cbyte _ | fstart | transact _ _ _ => exact .kept

theorem afterWake_values (a : WriteAnswer) (s : State) : (afterWake a s).values = s.values := by cases a <;> rfl

theorem afterCommand_values (a : WriteAnswer) (s : State) : (afterCommand a s).values = s.values := by cases a <;> rfl

theorem storeFrame_values (f : Frame) (s : State) : (storeFrame f s).values = s.values := by
  rw [storeFrame]; split <;> rfl

theorem afterRead_values (a : ReadAnswer) (s : State) : (afterRead a s).values = s.values := by
  rcases afterRead_cases s a with ⟨f, h⟩ | ⟨c, d, h⟩
  · rw [h, storeFrame_values]
  · rw [h]; rfl

theorem checkFrame_values (s : State) : (checkFrame s).values = s.values := by
  rw [checkFrame]; split <;> rfl

/-- Everything a step but reset can do to the decoded values. -/
theorem StepCase.values {s t : State} {e : Event} (h : s.Inv) (hstep : StepCase s e t) (hreset : e ≠ .reset) :
    ValuesStep s.fb s.values t.values := by
  cases hstep with
  | accept w i _ _ => exact bodyOf_values (s := acceptCommon _ s) h.frameValid i
  | decode hp =>
    have hvalid := h.frameValid (h.i7 hp)
    rw [deliverFrame]
    split
    · exact .reading hvalid
    · exact .identifier hvalid
  | wake a _ => rw [afterWake_values]; exact .kept
  | command a _ => rw [afterCommand_values]; exact .kept
  | read a _ => rw [afterRead_values]; exact .kept
  | check _ => rw [checkFrame_values]; exact .kept
  | reset => exact absurd rfl hreset
  | nothing | illegal _ _ _ _ | settleExit _ _ | tick _ _ | readReg _ => exact .kept

/-- Settles O51: a step that changes the values has decoded them from a frame that counts as validated. -/
theorem noValueFromAnInvalidFrame : Obligations.NoValueFromAnInvalidFrame := by
  intro s t hs hreset h
  have hvalues : ValuesStep s.fb s.values t.values := by simpa using (step_cases h).values hs.takeChoice hreset
  exact ⟨hvalues.reading_of_changed, hvalues.identifier_of_changed⟩

end Sys2Proof.Machine
end

section
/-! PROOFS. The accept step of the three sequencer operations: one equation for all of them, then each of them (O17 to
O19) and what the accept leaves unchanged (O23). -/

namespace Sys2Proof.Machine

/-! ### The accept step -/

/-- `i` is a sequencer operation with these operands. -/
def HasOperands (i : Instr) (c r n : Byte) : Prop := i = .transact c r n ∨ i = .rdsens c r n ∨ i = .rduid c r n

theorem exists_operands {i : Instr} (h : isSequencer i = true) : ∃ c r n, HasOperands i c r n := by
  cases i with
  | transact c r n => exact ⟨c, r, n, .inl rfl⟩
  | rdsens c r n => exact ⟨c, r, n, .inr (.inl rfl)⟩
  | rduid c r n => exact ⟨c, r, n, .inr (.inr rfl)⟩
  | _ => cases h

/-- The state after accepting the sequencer operation with this opcode and these operands (R111, R112): RDSENS
invalidates the reading (R119) and RDUID the identifier (R120). -/
def transactionStarted (opc c r n : Byte) (s : State) : State :=
  { s with
    opr := opc, done := false, err := false, cause := .none, eph := .idle, edesc := 0, cmd := c, raddr := r, rcnt := n,
    wf := false, wdesc := 0, cnt := 0, facc := Config.crcInit, fv := false, v := false, rv := s.rv && opc != 0x11,
    uv := s.uv && opc != 0x12, ph := .wake }

theorem bodyOf_sequencer {i : Instr} {c r n : Byte} (hi : HasOperands i c r n) (s : State) :
    bodyOf i (acceptCommon (opcode i) s) = transactionStarted (opcode i) c r n s := by
  rcases hi with rfl | rfl | rfl <;>
    simp [bodyOf, rdsensBody, rduidBody, startTransaction, acceptCommon, transactionStarted, opcode]

theorem exec_sequencer {i : Instr} {c r n : Byte} (hi : HasOperands i c r n) {s : State} (h : s.ready = true) :
    exec i s = .next (transactionStarted (opcode i) c r n s) := by
  rw [exec_ready h, bodyOf_sequencer hi]

theorem decode_encode (i : Instr) : decode (encode i) = .ok i := decodeAndEncodeAgree.1 i

/-- The word of an operation runs that operation. -/
theorem presentWord_encode (i : Instr) (s : State) : presentWord (encode i) s = exec i s :=
  presentWord_ok (decode_encode i)

/-- Settles O17. -/
theorem transactIsAccepted : Obligations.TransactIsAccepted :=
  ⟨fun _ _ _ _ h => exec_ready h, fun s c r n => presentWord_encode (.transact c r n) s⟩

/-- Settles O18. -/
theorem rdsensIsAccepted : Obligations.RdsensIsAccepted :=
  ⟨fun _ _ _ _ h => exec_ready h, fun s c r n => presentWord_encode (.rdsens c r n) s⟩

/-- Settles O19. -/
theorem rduidIsAccepted : Obligations.RduidIsAccepted :=
  ⟨fun _ _ _ _ h => exec_ready h, fun s c r n => presentWord_encode (.rduid c r n) s⟩

/-- `RV` and `UV` after the accept are as before, unless the operation is the one that invalidates them. -/
theorem and_bne_eq_self_or_eq (flag : Bool) (opc x : Byte) : (flag && opc != x) = flag ∨ opc = x := by
  by_cases h : opc = x <;> simp [h]

/-- Settles O23: a port that is not ready changes nothing, and the accept step writes none of the registers named but
`RV` and `UV`. -/
theorem sequencerAcceptFrame : Obligations.SequencerAcceptFrame := by
  intro i s t hi h
  obtain ⟨c, r, n, hops⟩ := exists_operands hi
  rcases exec_cases h with ⟨-, rfl⟩ | ⟨-, rfl⟩
  · rw [bodyOf_sequencer hops]
    exact ⟨rfl, fun _ _ => rfl, rfl, rfl, rfl, rfl, rfl, and_bne_eq_self_or_eq _ _ _,
      and_bne_eq_self_or_eq _ _ _, rfl, rfl, rfl, rfl⟩
  · exact ⟨rfl, fun _ _ => rfl, rfl, rfl, rfl, rfl, rfl, .inl rfl, .inl rfl, rfl, rfl, rfl, rfl⟩

end Sys2Proof.Machine
end

section
/-! PROOFS. The phases: each engine step and the tick as an equation (O27, O28, O30 to O33), what a step that is not
enabled does (O26), and what every step does in SETTLE (O29, O37) and in IDLE (O50). -/

namespace Sys2Proof.Machine

/-! ### The steps that are enabled -/

/-- R142 in a known phase. -/
theorem raiseComm_eq {s : State} {p : Phase} (hp : s.ph = p) (c : Cause) (d : Byte) :
    raiseComm c d s = { s with err := true, cause := c, eph := p, edesc := d, ph := .idle, done := true } := by
  rw [raiseComm, hp]

/-- Settles O27. -/
theorem wakeStepGoesOn : Obligations.WakeStepGoesOn :=
  fun _ _ hp => ⟨fun hs => step_wake hp hs, fun _ hs => step_wake hp hs⟩

/-- Settles O28. -/
theorem commandStepStartsTheSettleDelay : Obligations.CommandStepStartsTheSettleDelay := by
  refine fun s rest hp => ⟨fun hs => step_command hp hs, fun d hs => ?_⟩
  rw [step_command hp hs, afterCommand, raiseComm_eq (p := .cmdw) (by simp [hp])]
  rfl

/-- Settles O30: the answer of the read is a failure, of another length than 8, or a frame for TRANSACT or for the
composite operations. -/
theorem readStepStoresAFrameOrRaises : Obligations.ReadStepStoresAFrameOrRaises := by
  refine fun s rest hp => ⟨fun d hs => ?_, fun bytes hlen hs => ?_, fun f hopr hs => ?_, fun f hopr hs => ?_⟩
  · rw [step_read hp hs, afterRead, raiseComm_eq (p := .read) (by simp [hp])]
    rfl
  · rw [step_read hp hs, afterRead_length hlen, raiseComm_eq (p := .read) (by simp [hp])]
    rfl
  · rw [step_read hp hs, afterRead_frame, storeFrame_transact f (by exact hopr)]
    rfl
  · rw [step_read hp hs, afterRead_frame, storeFrame_composite f (by exact hopr)]
    rfl

/-- Settles O31: the frame in the buffer is valid or it is not. -/
theorem checkStepValidatesTheFrame : Obligations.CheckStepValidatesTheFrame := by
  rintro s rest c hp hs rfl
  rw [← summedPart_eq, step_check hp hs]
  constructor <;> intro hc
  · rw [checkFrame_valid (by exact (frameValid_iff s.fb).2 hc)]
    simp [hc, receivedCrc]
  · have hbad : frameValid s.fb = false := Bool.eq_false_iff.2 (mt (frameValid_iff s.fb).1 hc)
    rw [checkFrame_invalid (by exact hbad), raiseComm_eq (p := .check) (by exact hp)]

/-- Settles O32. -/
theorem decodeStepDeliversTheValue : Obligations.DecodeStepDeliversTheValue := by
  refine fun s rest hp hs => ⟨fun hopr => ?_, fun hopr => ?_⟩
  · rw [step_decode hp hs, deliverFrame_rdsens (by exact hopr)]
    rfl
  · rw [step_decode hp hs, deliverFrame_rduid (by simp [hopr])]
    rfl

/-! ### The steps that are not enabled -/

/-- Settles O26: the row's enabling condition is the one its step tests. -/
theorem disabledStepsChangeNothing : Obligations.DisabledStepsChangeNothing := by
  intro s e rest hs hdisabled
  rw [step_cons hs]
  cases e with
  | present w => exact presentWord_notReady hdisabled
  | wake a | command a | read a | check | decode => exact congrArg _ (if_neg hdisabled)
  | settleExit => exact congrArg _ (if_neg (not_and_or.2 hdisabled))
  | tick =>
    refine congrArg _ (if_neg fun ⟨hp, hpos⟩ => ?_)
    exact hdisabled.elim (· hp) fun h0 => by simp [h0] at hpos
  | readReg n | reset => exact hdisabled.elim

/-- Settles O33: a tick is enabled in SETTLE with `TMR > 0`, where the subtraction does not wrap. -/
theorem tickCountsTheSettleTimerDown : Obligations.TickCountsTheSettleTimerDown := by
  refine fun s rest hs => ⟨fun ⟨hp, hne⟩ => ?_, fun hnot => ?_⟩
  · refine ⟨_, step_tick hp (by bv_omega) hs, rfl, ?_⟩
    show (s.tmr - 1).toNat + 1 = s.tmr.toNat
    bv_omega
  · exact disabledStepsChangeNothing s .tick rest hs ((not_and_or.1 hnot).imp_right not_not.1)

/-! ### Waiting in SETTLE -/

/-- Everything an event but reset does in SETTLE. -/
theorem StepCase.settle {s t : State} {e : Event} (h : StepCase s e t) (hp : s.ph = .settle) (hreset : e ≠ .reset) :
    t = s ∨ (e = .settleExit ∧ s.tmr = 0 ∧ t = { s with ph := .read }) ∨
    (e = .tick ∧ 0 < s.tmr ∧ t = { s with tmr := s.tmr - 1 }) ∨ ∃ n, e = .readReg n ∧ t = readRegister n s := by
  cases h with
  | nothing => exact .inl rfl
  | settleExit _ h0 => exact .inr (.inl ⟨rfl, h0, rfl⟩)
  | tick _ hpos => exact .inr (.inr (.inl ⟨rfl, hpos, rfl⟩))
  | readReg n => exact .inr (.inr (.inr ⟨n, rfl, rfl⟩))
  | reset => exact absurd rfl hreset
  | accept _ _ hr | illegal _ _ hr => simp [State.ready, hp] at hr
  | wake _ hp' | command _ hp' | read _ hp' | check hp' | decode hp' => simp [hp] at hp'

/-- Settles O29. -/
theorem settlePhaseOnlyWaits : Obligations.SettlePhaseOnlyWaits := by
  refine ⟨fun s rest hp hs => ?_, fun s e rest hp hs hreset hread => ?_⟩
  · by_cases h0 : s.tmr = 0
    · rw [step_settleExit hp h0 hs, if_pos h0]
    · rw [disabledStepsChangeNothing s .settleExit rest hs (.inr h0), if_neg h0, ← hp]
  · obtain ⟨t, ht⟩ := step_next s
    have hcase := takeEvent_cases (step_cons hs ▸ ht)
    refine ⟨t, ht, ?_⟩
    rcases hcase.settle hp hreset with rfl | ⟨he, h0, rfl⟩ | ⟨he, hpos, rfl⟩ | ⟨n, he, -⟩
    · exact ⟨rfl, .inl hp, .inl rfl⟩
    · exact ⟨rfl, .inr ⟨rfl, h0, he⟩, .inl rfl⟩
    · exact ⟨rfl, .inl hp, .inr ⟨he, rfl, hpos⟩⟩
    · exact absurd he (hread n)

/-- One step of a wait in SETTLE: it goes on and only a tick takes one from the timer, or the timer was 0. -/
theorem settle_step {s t : State} {e : Event} {rest : List Event} (hp : s.ph = .settle) (hs : s.script = e :: rest)
    (hreset : e ≠ .reset) (h : step s = .next t) :
    s.tmr = 0 ∨ (t.ph = .settle ∧ t.script = rest ∧ s.tmr.toNat ≤ t.tmr.toNat + [e].count .tick) := by
  have hcase := takeEvent_cases (step_cons hs ▸ h)
  rcases hcase.settle hp hreset with rfl | ⟨-, h0, -⟩ | ⟨rfl, hpos, rfl⟩ | ⟨n, -, rfl⟩
  · exact .inr ⟨hp, rfl, Nat.le_add_right _ _⟩
  · exact .inl h0
  · refine .inr ⟨hp, rfl, ?_⟩
    show s.tmr.toNat ≤ (s.tmr - 1).toNat + 1
    bv_omega
  · exact .inr ⟨hp, rfl, Nat.le_add_right _ _⟩

/-- A run without reset that has left SETTLE has taken as many ticks as the timer held. -/
theorem settle_ticks {k : Nat} {s t : State} (hp : s.ph = .settle) (hk : k ≤ s.script.length)
    (hreset : .reset ∉ s.script.take k) (h : run k s = .next t) (ht : t.ph ≠ .settle) :
    s.tmr.toNat ≤ (s.script.take k).count .tick := by
  induction k generalizing s with
  | zero => cases h; exact absurd hp ht
  | succ k ih =>
    cases hs : s.script with
    | nil => simp [hs] at hk
    | cons e rest =>
      rw [hs, List.take_succ_cons, List.mem_cons, not_or] at hreset
      obtain ⟨u, hu⟩ := step_next s
      rw [run_succ hu] at h
      rcases settle_step hp hs (Ne.symm hreset.1) hu with h0 | ⟨hup, rfl, htmr⟩
      · simp [h0]
      · have hrest := ih hup (by simpa [hs] using hk) hreset.2 h
        rw [List.take_succ_cons, ← List.singleton_append, List.count_append]
        omega

/-- Settles O37: the margin of R173 grows with the number of ticks. -/
theorem settleDelayIsALowerBound : Obligations.SettleDelayIsALowerBound := by
  intro s t k hp hk hreset h ht
  have hticks := settle_ticks hp hk hreset h ht
  refine ⟨hticks, fun period hmargin => ?_⟩
  exact (of_decide_eq_true hmargin).trans (Nat.mul_le_mul_right period (Nat.sub_le_sub_right hticks 1))

/-! ### Reports in IDLE -/

/-- A local operation leaves the wake report alone (R145). -/
theorem bodyOf_wakeReport_of_local {i : Instr} (hlocal : isSequencer i = false) (s : State) :
    (bodyOf i s).wf = s.wf ∧ (bodyOf i s).wdesc = s.wdesc := by
  cases i with
  | compute n => rw [bodyOf, computeBody]; split <;> exact ⟨rfl, rfl⟩
  | fbyte b => rw [bodyOf, fbyteBody]; split <;> exact ⟨rfl, rfl⟩
  | verify => rw [bodyOf, verifyBody]; split <;> exact ⟨rfl, rfl⟩
  | decrd => rw [bodyOf, decrdBody]; split <;> exact ⟨rfl, rfl⟩
  | decid => rw [bodyOf, decidBody]; split <;> exact ⟨rfl, rfl⟩
  | cinit | cbyte _ | fstart => exact ⟨rfl, rfl⟩
  | transact _ _ _ | rdsens _ _ _ | rduid _ _ _ => cases hlocal

/-- Everything an event but reset does in IDLE: nothing, a register read, or the accept of a word on a ready port. -/
theorem StepCase.idle {s t : State} {e : Event} (h : StepCase s e t) (hp : s.ph = .idle) (hreset : e ≠ .reset) :
    t = s ∨ (∃ n, t = readRegister n s) ∨ ∃ w, e = .present w ∧ s.ready = true ∧
      ((∃ i, Sys2Proof.decode w = .ok i ∧ t = bodyOf i (acceptCommon (opcode i) s)) ∨
        t = raiseFault .illegalOp (acceptCommon (unpack w).opc s)) := by
  cases h with
  | nothing => exact .inl rfl
  | readReg n => exact .inr (.inl ⟨n, rfl⟩)
  | accept w i hr hd => exact .inr (.inr ⟨w, rfl, hr, .inl ⟨i, hd, rfl⟩⟩)
  | illegal w r hr => exact .inr (.inr ⟨w, rfl, hr, .inr rfl⟩)
  | reset => exact absurd rfl hreset
  | wake _ hp' | command _ hp' | settleExit hp' | read _ hp' | check hp' | decode hp' | tick hp' => simp [hp] at hp'

/-- Settles O50: only the accept of a word writes the report, and only a sequencer operation the wake report. -/
theorem errorReportStandsUntilAccept : Obligations.ErrorReportStandsUntilAccept := by
  intro s t hp hreset h
  rcases (step_cases h).idle (by simp [hp]) hreset with rfl | ⟨n, rfl⟩ | ⟨w, he, hr, haccept⟩
  · simp
  · simp
  · constructor
    · rintro (hnone | hfault)
      · exact absurd he (hnone w)
      · simp [State.ready, hfault] at hr
    · intro hlocal
      rcases haccept with ⟨i, hd, rfl⟩ | rfl
      · have hlocal := hlocal w i he hd
        simp [bodyOf_wakeReport_of_local hlocal]
      · simp

end Sys2Proof.Machine
end

section
/-! PROOFS. The phase graph of R110 (O34): every change of `PH` follows an arrow, and every arrow can be followed; and
the measure that sequencer operations lower (O35). -/

namespace Sys2Proof.Machine

/-! ### The phase graph -/

/-- A sequencer operation is accepted into WAKE (R112, R119, R120). -/
theorem bodyOf_ph_of_sequencer {i : Instr} (hi : isSequencer i = true) (s : State) : (bodyOf i s).ph = .wake := by
  cases i with
  | transact _ _ _ | rdsens _ _ _ | rduid _ _ _ => rfl
  | _ => cases hi

/-- The comparison of R117, as the phase graph writes it. -/
theorem frameValid_iff_take (f : Frame) : frameValid f = true ↔ crc16 (f.toList.take 6) = le16 f[6] f[7] :=
  frameValid_iff f

theorem frameValid_false_iff_take (f : Frame) :
    frameValid f = false ↔ crc16 (f.toList.take 6) ≠ le16 f[6] f[7] :=
  Bool.eq_false_iff.trans (not_congr (frameValid_iff_take f))

/-- Eight bytes read are a frame (R116). -/
theorem afterRead_ok {bytes : List Byte} (h : bytes.length = 8) (s : State) :
    afterRead (.ok bytes) s = storeFrame (frameOfList bytes h) s := dif_pos h

/-- The read step follows the arrow its answer and `OPR` choose (R116). -/
theorem phaseArrow_read {s : State} (hp : s.ph = .read) (hopr : s.opr = 0x10 ∨ s.opr = 0x11 ∨ s.opr = 0x12)
    (a : ReadAnswer) (c : BusCall) : PhaseArrow s (.read a) (afterRead a (logCall c s)).ph := by
  cases a with
  | err d => exact .readErr d hp
  | ok bytes =>
    by_cases hlen : bytes.length = 8
    · rw [afterRead_ok hlen]
      by_cases h10 : s.opr = 0x10
      · rw [storeFrame_transact _ (by exact h10)]; exact .readEnds bytes hp hlen h10
      · rw [storeFrame_composite _ (by exact h10)]; exact .readGoesOn bytes hp hlen (hopr.resolve_left h10)
    · rw [afterRead_length hlen]; exact .readLength bytes hp hlen

/-- The check step follows the arrow its comparison chooses (R117). -/
theorem phaseArrow_check {s : State} (hp : s.ph = .check) : PhaseArrow s .check (checkFrame s).ph := by
  cases hvalid : frameValid s.fb with
  | true => rw [checkFrame_valid hvalid]; exact .checkEqual hp ((frameValid_iff_take _).1 hvalid)
  | false => rw [checkFrame_invalid hvalid]; exact .checkDiffers hp ((frameValid_false_iff_take _).1 hvalid)

/-- Everything an event can do to `PH` follows an arrow. -/
theorem StepCase.phaseArrow {s t : State} {e : Event} (h : s.Inv) (hstep : StepCase s e t) (hne : t.ph ≠ s.ph) :
    PhaseArrow s e t.ph := by
  cases hstep with
  | accept w i hr hd =>
    obtain ⟨hp, hf⟩ := (ready_iff s).1 hr
    cases hi : isSequencer i with
    | true => rw [bodyOf_ph_of_sequencer hi]; exact .accept w i hp hf hd hi
    | false => exact absurd ((bodyOf_ph_of_local hi (by exact hp)).trans hp.symm) hne
  | illegal w r hr hd => exact absurd ((ready_iff s).1 hr).1.symm hne
  | wake a hp => rw [afterWake_ph]; exact .wakeDone a hp
  | command a hp =>
    cases a with
    | ok => exact .commandOk hp
    | err d => exact .commandErr d hp
  | settleExit hp h0 => exact .settled hp h0
  | read a hp => exact phaseArrow_read hp (h.i5 (by simp [hp])) a readCall
  | check hp => exact phaseArrow_check hp
  | decode hp => rw [deliverFrame_ph]; exact .decoded hp
  | reset => exact .reset hne.symm
  | nothing | tick _ _ | readReg _ => exact absurd rfl hne

/-- Every arrow can be followed: its event is a step to its phase. -/
theorem PhaseArrow.takeEvent {s : State} {e : Event} {q : Phase} (h : PhaseArrow s e q) :
    ∃ t, takeEvent e s = .next t ∧ t.ph = q := by
  cases h with
  | accept w i hp hf hd hi =>
    exact ⟨_, (presentWord_ok hd).trans (exec_ready ((ready_iff s).2 ⟨hp, hf⟩)), bodyOf_ph_of_sequencer hi _⟩
  | wakeDone a hp => exact ⟨_, rfl, by rw [wakeStep, if_pos hp, afterWake_ph]⟩
  | commandOk hp | commandErr d hp => exact ⟨_, rfl, by rw [commandStep, if_pos hp]; rfl⟩
  | settled hp h0 => exact ⟨_, rfl, by rw [settleExitStep, if_pos ⟨hp, h0⟩]⟩
  | readEnds bytes hp hlen h10 =>
    exact ⟨_, rfl, by rw [readStep, if_pos hp, afterRead_ok hlen, storeFrame_transact _ (by exact h10)]⟩
  | readGoesOn bytes hp hlen hopr =>
    have h10 : s.opr ≠ 0x10 := by rcases hopr with hopr | hopr <;> simp [hopr]
    exact ⟨_, rfl, by rw [readStep, if_pos hp, afterRead_ok hlen, storeFrame_composite _ (by exact h10)]⟩
  | readLength bytes hp hlen => exact ⟨_, rfl, by rw [readStep, if_pos hp, afterRead_length hlen, raiseComm_ph]⟩
  | readErr d hp => exact ⟨_, rfl, by rw [readStep, if_pos hp]; rfl⟩
  | checkEqual hp hcrc =>
    exact ⟨_, rfl, by rw [checkStep, if_pos hp, checkFrame_valid ((frameValid_iff_take _).2 hcrc)]⟩
  | checkDiffers hp hcrc =>
    have hbad := (frameValid_false_iff_take s.fb).2 hcrc
    exact ⟨_, rfl, by rw [checkStep, if_pos hp, checkFrame_invalid hbad, raiseComm_ph]⟩
  | decoded hp => exact ⟨_, rfl, by rw [decodeStep, if_pos hp, deliverFrame_ph]⟩
  | reset _ => exact ⟨_, rfl, rfl⟩

/-- The arrows do not depend on the outside world's next choices. -/
theorem PhaseArrow.world {s : State} {e : Event} {q : Phase} (script : List Event) (draws : Nat)
    (h : PhaseArrow s e q) : PhaseArrow { s with script := script, draws := draws } e q :=
  match h with
  | .accept w i hp hf hd hi => .accept w i hp hf hd hi
  | .wakeDone a hp => .wakeDone a hp
  | .commandOk hp => .commandOk hp
  | .commandErr d hp => .commandErr d hp
  | .settled hp h0 => .settled hp h0
  | .readEnds bytes hp hlen hopr => .readEnds bytes hp hlen hopr
  | .readGoesOn bytes hp hlen hopr => .readGoesOn bytes hp hlen hopr
  | .readLength bytes hp hlen => .readLength bytes hp hlen
  | .readErr d hp => .readErr d hp
  | .checkEqual hp hcrc => .checkEqual hp hcrc
  | .checkDiffers hp hcrc => .checkDiffers hp hcrc
  | .decoded hp => .decoded hp
  | .reset hp => .reset hp

/-- Taking the choice out of the script changes the script and the count of draws only. -/
theorem takeChoice_eq (s : State) :
    takeChoice s = { s with script := (takeChoice s).script, draws := (takeChoice s).draws } := by
  rw [takeChoice]; split <;> rfl

theorem phaseArrow_takeChoice {s : State} {e : Event} {q : Phase} :
    PhaseArrow (takeChoice s) e q ↔ PhaseArrow s e q := by
  rw [takeChoice_eq]
  exact ⟨fun h => h.world s.script s.draws, fun h => h.world _ _⟩

/-- Settles O34: everything a step can do follows an arrow, and an arrow's event is a step along it. -/
theorem phaseGraphIsComplete : Obligations.PhaseGraphIsComplete := by
  refine ⟨fun s t hs h hne => ?_, fun s q harrow => (phaseArrow_takeChoice.2 harrow).takeEvent⟩
  exact phaseArrow_takeChoice.1 ((step_cases h).phaseArrow hs.takeChoice (by simpa using hne))

/-! ### The steps still needed -/

/-- The measure depends on the phase and the settle timer only. -/
theorem remaining_congr {s t : State} (hp : t.ph = s.ph) (ht : t.tmr = s.tmr) : t.remaining = s.remaining := by
  rw [State.remaining, State.remaining, hp, ht]

/-- What a step of an operation in progress does to the measure: the engine and the ticks lower it, and nothing else but
reset touches it. -/
theorem StepCase.remaining {s t : State} {e : Event} (h : StepCase s e t) (hbusy : s.ph ≠ .idle)
    (hreset : e ≠ .reset) : t.remaining < s.remaining ∨ (t.ph = s.ph ∧ t.tmr = s.tmr) := by
  cases h with
  | nothing | readReg _ => exact .inr ⟨rfl, rfl⟩
  | accept _ _ hr | illegal _ _ hr => exact absurd ((ready_iff s).1 hr).1 hbusy
  | reset => exact absurd rfl hreset
  | wake a hp => left; simp [State.remaining, hp]
  | command a hp => left; cases a <;> simp [State.remaining, afterCommand, hp]
  | settleExit hp h0 => left; simp [State.remaining, hp, h0]
  | read a hp => left; rcases afterRead_ph (logCall readCall s) a with ht | ht <;> simp [State.remaining, hp, ht]
  | check hp => left; rcases checkFrame_ph s with ht | ht <;> simp [State.remaining, hp, ht]
  | decode hp => left; simp [State.remaining, hp]
  | tick hp hpos =>
    left
    simp only [State.remaining, hp]
    bv_omega

/-- The engine or the tick source has a step that moves an operation in progress: it changes `PH` or `TMR`. -/
theorem exists_moving_step {s : State} {p : Phase} (hp : s.ph = p) (hbusy : p ≠ .idle) (rest : List Event) :
    ∃ e, e ≠ .reset ∧ (∀ w, e ≠ .present w) ∧
      ∃ t, step { s with script := e :: rest } = .next t ∧ ¬(t.ph = s.ph ∧ t.tmr = s.tmr) := by
  cases p with
  | idle => exact absurd rfl hbusy
  | wake => exact ⟨.wake .ok, nofun, nofun, _, step_wake hp rfl, by simp [hp]⟩
  | cmdw => exact ⟨.command .ok, nofun, nofun, _, step_command hp rfl, by simp [afterCommand, hp]⟩
  | settle =>
    by_cases h0 : s.tmr = 0
    · exact ⟨.settleExit, nofun, nofun, _, step_settleExit hp h0 rfl, by simp [hp]⟩
    · refine ⟨.tick, nofun, nofun, _, step_tick hp (by bv_omega) rfl, fun ⟨_, htmr⟩ => ?_⟩
      have hsame : s.tmr - 1 = s.tmr := htmr
      bv_omega
  | read => exact ⟨.read (.err 0), nofun, nofun, _, step_read hp rfl, by simp [afterRead, hp]⟩
  | check =>
    refine ⟨.check, nofun, nofun, _, step_check hp rfl, fun ⟨hsame, _⟩ => ?_⟩
    rcases checkFrame_ph { s with script := rest } with ht | ht <;> cases ht.symm.trans (hsame.trans hp)
  | decode => exact ⟨.decode, nofun, nofun, _, step_decode hp rfl, by simp [hp]⟩

/-- Settles O35: no step but reset raises the measure, and a step that moves the operation lowers it. -/
theorem operationsOnlyMoveForward : Obligations.OperationsOnlyMoveForward := by
  constructor
  · intro s t hbusy hreset h
    rw [← remaining_congr (takeChoice_ph s) (takeChoice_tmr s)]
    rcases (step_cases h).remaining (by simpa using hbusy) hreset with hlt | ⟨hp, ht⟩
    · exact hlt.le
    · exact (remaining_congr hp ht).le
  · intro s rest hbusy
    obtain ⟨e, hreset, hpresent, t, h, hmoved⟩ := exists_moving_step rfl hbusy rest
    have hcase : StepCase { s with script := rest } e t := step_cases h
    exact ⟨e, hreset, hpresent, t, h, (hcase.remaining hbusy hreset).resolve_right hmoved⟩

end Sys2Proof.Machine
end

section
/-! PROOFS. Whole sequencer operations on the schedule of `transactionScript`: the run from the accept to the answer of
the read, once for the three operations, and then how each of them ends (O40 to O42, O44). -/

namespace Sys2Proof.Machine

/-! ### From the accept to the command write -/

/-- R113 where no wake failure is on record, as after the accept. -/
theorem afterWake_eq {s : State} (hwf : s.wf = false) (hwdesc : s.wdesc = 0) (a : WriteAnswer) :
    afterWake a s = { s with wf := a.failed, wdesc := a.desc, ph := .cmdw } := by
  cases a with
  | ok => simp [afterWake, WriteAnswer.failed, WriteAnswer.desc, hwf, hwdesc]
  | err d => rfl

/-- The state in which the read of the transaction that `t` has started is answered: the wake write has been answered
`wa`, the three calls are made, and `script` is what the outside world will choose next (R113 to R116). -/
def awaitingFrame (wa : WriteAnswer) (script : List Event) (t : State) : State :=
  { t with
    wf := wa.failed, wdesc := wa.desc, ph := .read, tmr := 0, script := script,
    calls := t.calls ++
      [.write Config.devAddr [], .write Config.devAddr [t.cmd, t.raddr, t.rcnt], .read Config.devAddr 8] }

section

variable {s : State} {rest : List Event}

/-- The wake step and the command step, up to what the answer of the command write does (R113, R114). -/
theorem run_writes {wa ca : WriteAnswer} (hp : s.ph = .wake) (hwf : s.wf = false) (hwdesc : s.wdesc = 0)
    (hs : s.script = .wake wa :: .command ca :: rest) :
    run 2 s = .next (afterCommand ca { s with
      wf := wa.failed, wdesc := wa.desc, ph := .cmdw, script := rest,
      calls := s.calls ++ [wakeCall, commandCall s] }) := by
  rw [run_succ (step_wake hp hs), afterWake_eq (by exact hwf) (by exact hwdesc),
    run_succ (step_command rfl rfl), run_zero]
  simp [logCall, commandCall]

/-- The wait of R115: as many ticks as the timer holds bring it to 0. -/
theorem run_ticks {k : Nat} (hp : s.ph = .settle) (hk : s.tmr.toNat = k)
    (hs : s.script = List.replicate k .tick ++ rest) : run k s = .next { s with tmr := 0, script := rest } := by
  induction k generalizing s with
  | zero =>
    have h0 : s.tmr = 0 := BitVec.eq_of_toNat_eq hk
    rw [run_zero, ← h0, ← show s.script = rest from hs]
  | succ k ih =>
    rw [run_succ (step_tick hp (by bv_omega) hs)]
    exact ih hp (by show (s.tmr - 1).toNat = k; bv_omega) rfl

/-- The wait, the settle-exit step and the read step, up to what the answer of the read does (R115, R116). -/
theorem run_settle_read {k : Nat} {ra : ReadAnswer} (hp : s.ph = .settle) (hk : s.tmr.toNat = k)
    (hs : s.script = List.replicate k .tick ++ .settleExit :: .read ra :: rest) :
    run (k + 2) s = .next (afterRead ra { s with
      tmr := 0, ph := .read, script := rest, calls := s.calls ++ [readCall] }) := by
  rw [run_add (run_ticks hp hk hs), run_succ (step_settleExit (by exact hp) rfl rfl),
    run_succ (step_read rfl rfl), run_zero]
  rfl

/-- From WAKE to the answer of the read (R113 to R116). -/
theorem run_transactionScript {wa : WriteAnswer} {ra : ReadAnswer} (hp : s.ph = .wake) (hwf : s.wf = false)
    (hwdesc : s.wdesc = 0) (hs : s.script = transactionScript wa ra ++ rest) :
    run (4 + Config.settleTicks.toNat) s = .next (afterRead ra (awaitingFrame wa rest s)) := by
  have hscript : s.script = .wake wa :: .command .ok ::
      (List.replicate Config.settleTicks.toNat .tick ++ .settleExit :: .read ra :: rest) := by
    simp [hs, transactionScript]
  rw [show 4 + Config.settleTicks.toNat = 2 + (Config.settleTicks.toNat + 2) by omega,
    run_add (run_writes hp hwf hwdesc hscript), afterCommand,
    run_settle_read (k := Config.settleTicks.toNat) rfl rfl rfl]
  simp [awaitingFrame, wakeCall, commandCall, commandFrame, readCall]

end

/-! ### A whole transaction -/

section

variable {s : State} {i : Instr} {c r n : Byte} {wa : WriteAnswer} {rest : List Event}

/-- The host presents a sequencer operation on a ready port (R111, R112). -/
theorem step_sequencer (hready : s.ready = true) (hi : HasOperands i c r n)
    (hs : s.script = .present (encode i) :: rest) :
    step s = .next (transactionStarted (opcode i) c r n { s with script := rest }) := by
  rw [step_present hready (decode_encode i) hs, bodyOf_sequencer hi]

/-- From the accept to the answer of the read. -/
theorem run_transaction {ra : ReadAnswer} (hready : s.ready = true) (hi : HasOperands i c r n)
    (hs : s.script = .present (encode i) :: transactionScript wa ra ++ rest) :
    run (5 + Config.settleTicks.toNat) s =
      .next (afterRead ra (awaitingFrame wa rest (transactionStarted (opcode i) c r n s))) := by
  rw [show 5 + Config.settleTicks.toNat = 4 + Config.settleTicks.toNat + 1 by omega,
    run_succ (step_sequencer hready hi hs), run_transactionScript rfl rfl rfl rfl]
  rfl

/-- RDSENS and RDUID with a valid frame run on to the decoder (R116 to R118). -/
theorem run_validFrame {f : Frame} (hready : s.ready = true) (hi : HasOperands i c r n) (h10 : opcode i ≠ 0x10)
    (hvalid : frameValid f = true)
    (hs : s.script = .present (encode i) :: transactionScript wa (.ok f.toList) ++ .check :: .decode :: rest) :
    run (7 + Config.settleTicks.toNat) s =
      .next (deliverFrame { awaitingFrame wa rest (transactionStarted (opcode i) c r n s) with
        fb := f, cnt := 8, fv := true, facc := receivedCrc f, v := true, ph := .decode }) := by
  rw [show 7 + Config.settleTicks.toNat = 5 + Config.settleTicks.toNat + 2 by omega,
    run_add (run_transaction hready hi hs), afterRead_frame, storeFrame_composite f (by exact h10),
    run_succ (step_check rfl rfl), checkFrame_valid (by exact hvalid), run_succ (step_decode rfl rfl)]
  rfl

/-- RDSENS and RDUID with an invalid frame end with cause CHECKSUM (R116, R117). -/
theorem run_invalidFrame {f : Frame} (hready : s.ready = true) (hi : HasOperands i c r n) (h10 : opcode i ≠ 0x10)
    (hvalid : frameValid f = false)
    (hs : s.script = .present (encode i) :: transactionScript wa (.ok f.toList) ++ .check :: rest) :
    run (6 + Config.settleTicks.toNat) s =
      .next { awaitingFrame wa rest (transactionStarted (opcode i) c r n s) with
        fb := f, cnt := 8, fv := true, facc := crc16 (f.toList.take 6), v := false, ph := .idle, done := true,
        err := true, cause := .checksum, eph := .check, edesc := 0 } := by
  rw [show 6 + Config.settleTicks.toNat = 5 + Config.settleTicks.toNat + 1 by omega,
    run_add (run_transaction hready hi hs), afterRead_frame, storeFrame_composite f (by exact h10),
    run_succ (step_check rfl rfl), checkFrame_invalid (by exact hvalid)]
  rfl

end

/-! ### How the operations end -/

/-- Settles O40. -/
theorem transactDeliversTheRawFrame : Obligations.TransactDeliversTheRawFrame := by
  intro s c r n wa f rest hready hs
  rw [run_transaction hready (.inl rfl) hs, afterRead_frame, storeFrame_transact f rfl]
  simp [awaitingFrame, transactionStarted, opcode]

/-- Settles O41. -/
theorem rdsensReadsASensor : Obligations.RdsensReadsASensor := by
  refine fun s c r n wa f rest hready => ⟨fun hvalid hs => ?_, fun hvalid hs => ?_⟩
  · rw [run_validFrame hready (.inr (.inl rfl)) (by simp [opcode]) hvalid hs, deliverFrame_rdsens rfl]
    simp [complete, deliverReading, awaitingFrame, transactionStarted, opcode, frameReading, decodeReading]
  · rw [run_invalidFrame hready (.inr (.inl rfl)) (by simp [opcode]) hvalid hs]
    simp [awaitingFrame, transactionStarted, opcode]

/-- Settles O42. -/
theorem rduidReadsAnIdentifier : Obligations.RduidReadsAnIdentifier := by
  refine fun s c r n wa f rest hready => ⟨fun hvalid hs => ?_, fun hvalid hs => ?_⟩
  · rw [run_validFrame hready (.inr (.inr rfl)) (by simp [opcode]) hvalid hs,
      deliverFrame_rduid (by simp [awaitingFrame, transactionStarted, opcode])]
    simp [complete, deliverUid, awaitingFrame, transactionStarted, opcode, frameUid, decodeUid]
  · rw [run_invalidFrame hready (.inr (.inr rfl)) (by simp [opcode]) hvalid hs]
    simp [awaitingFrame, transactionStarted, opcode]

/-- Settles O44: the command write fails, or the read fails, or it answers another length than 8; each raises its
error on the state reached. -/
theorem transactionFailuresAreReported : Obligations.TransactionFailuresAreReported := by
  intro s i c r n wa rest hready hi
  obtain ⟨-, hfault⟩ := (ready_iff s).1 hready
  refine ⟨fun d hs => ⟨_, ?_, by exact (ready_iff _).2 ⟨rfl, hfault⟩, rfl⟩,
    fun d hs => ⟨_, ?_, by exact (ready_iff _).2 ⟨rfl, hfault⟩, rfl⟩,
    fun bytes hlen hs => ⟨_, ?_, by exact (ready_iff _).2 ⟨rfl, hfault⟩, rfl⟩⟩
  · rw [run_succ (step_sequencer hready hi hs), run_writes rfl rfl rfl rfl]
    rfl
  · rw [run_transaction hready hi hs]
    rfl
  · rw [run_transaction hready hi hs, afterRead_length hlen]
    rfl

end Sys2Proof.Machine
end

section
/-! PROOFS. Errors and faults: what a sequencer operation reports when its wake write or its command write fails (O43);
which operations raise a sticky fault (O47), that a proper host never sees one (O48), and that it stands until reset
(O49). -/

namespace Sys2Proof.Machine

/-- Settles O43: the command step keeps what the wake step has recorded (R151). -/
theorem wakeFailureIsSurfaced : Obligations.WakeFailureIsSurfaced := by
  refine fun s wa rest hp hwf hwdesc => ⟨fun hs => ⟨_, run_writes hp hwf hwdesc hs, ?_⟩,
    fun d hs => ⟨_, run_writes hp hwf hwdesc hs, ?_⟩⟩
  · exact ⟨rfl, rfl, rfl, rfl, rfl⟩
  · exact ⟨rfl, rfl, rfl, rfl, rfl, rfl, rfl, rfl⟩

/-! ### Which step raises a sticky fault -/

/-- Accept-common writes none of the registers the preconditions of R172 speak of. -/
@[simp] theorem faultFree_acceptCommon (i : Instr) (opc : Byte) (s : State) :
    faultFree i (acceptCommon opc s) = faultFree i s := by cases i <;> rfl

/-- `FAULT` after the local effect of an operation: set where its precondition is not met (R140), and never cleared. -/
theorem bodyOf_fault (i : Instr) (s : State) : (bodyOf i s).fault = (s.fault || !faultFree i s) := by
  cases i with
  | compute n =>
    rw [bodyOf, computeBody]
    split
    case isTrue hlt => simp [faultFree, hlt]
    case isFalse hge => simp [faultFree, Nat.not_lt.1 hge]
  | fbyte b => rw [bodyOf, fbyteBody]; split <;> simp [faultFree, storeFrameByte]
  | verify => cases hfv : s.fv <;> simp [bodyOf, verifyBody, faultFree, hfv]
  | decrd | decid => cases hvalid : (s.fv && s.v) <;> simp [bodyOf, decrdBody, decidBody, faultFree, hvalid]
  | cinit | cbyte _ | fstart | transact _ _ _ | rdsens _ _ _ | rduid _ _ _ => exact (Bool.or_false _).symm

/-- An operation accepted on a ready port leaves `FAULT = 1` exactly when its precondition is not met (R172). -/
theorem bodyOf_acceptCommon_fault {s : State} (h : s.ready = true) (i : Instr) (opc : Byte) :
    (bodyOf i (acceptCommon opc s)).fault = !faultFree i s := by
  simp [bodyOf_fault, ((ready_iff s).1 h).2]

/-- Settles O47: a word on a ready port runs the operation it decodes to or raises ILLEGAL_OP. -/
theorem faultExactlyOnMisuse : Obligations.FaultExactlyOnMisuse := by
  intro s t w hready h
  rcases presentWord_cases h with ⟨hnot, -⟩ | ⟨i, -, hd, rfl⟩ | ⟨e, -, hd, rfl⟩
  · simp [hready] at hnot
  · simp [bodyOf_acceptCommon_fault hready, hd]
  · simp [hd]

theorem afterWake_fault (a : WriteAnswer) (s : State) : (afterWake a s).fault = s.fault := by cases a <;> rfl

theorem afterCommand_fault (a : WriteAnswer) (s : State) : (afterCommand a s).fault = s.fault := by cases a <;> rfl

theorem storeFrame_fault (f : Frame) (s : State) : (storeFrame f s).fault = s.fault := by
  rw [storeFrame]; split <;> rfl

theorem afterRead_fault (a : ReadAnswer) (s : State) : (afterRead a s).fault = s.fault := by
  rcases afterRead_cases s a with ⟨f, h⟩ | ⟨c, d, h⟩
  · rw [h, storeFrame_fault]
  · rw [h, raiseComm_fault]

theorem checkFrame_fault (s : State) : (checkFrame s).fault = s.fault := by
  rw [checkFrame]; split <;> rfl

theorem deliverFrame_fault (s : State) : (deliverFrame s).fault = s.fault := by
  rw [deliverFrame]; split <;> rfl

/-- A word that is proper for the host is an operation with its precondition met (R172). -/
theorem exists_faultFree_of_hostProper {w : Word32} {s : State} (h : hostProper w s = true) :
    ∃ i, decode w = .ok i ∧ faultFree i s = true := by
  unfold hostProper at h
  split at h
  case h_1 i hd => exact ⟨i, hd, (Bool.and_eq_true_iff.1 h).1⟩
  case h_2 => cases h

/-- An event leaves a safe state safe unless it presents a word that is not proper: the engine's steps raise none of the
sticky faults (R141). -/
theorem StepCase.fault {s t : State} {e : Event} (h : StepCase s e t) (hs : s.fault = false)
    (hproper : ∀ w, e = .present w → hostProper w s = true) : t.fault = false := by
  cases h with
  | accept w i hr hd =>
    obtain ⟨j, hd', hfree⟩ := exists_faultFree_of_hostProper (hproper w rfl)
    cases hd.symm.trans hd'
    simp [bodyOf_acceptCommon_fault hr, hfree]
  | illegal w r _ hd =>
    obtain ⟨j, hd', -⟩ := exists_faultFree_of_hostProper (hproper w rfl)
    cases hd.symm.trans hd'
  | wake a _ => exact (afterWake_fault a _).trans hs
  | command a _ => exact (afterCommand_fault a _).trans hs
  | read a _ => exact (afterRead_fault a _).trans hs
  | check _ => exact (checkFrame_fault s).trans hs
  | decode _ => exact (deliverFrame_fault s).trans hs
  | nothing | settleExit _ _ | tick _ _ | readReg _ => exact hs
  | reset => rfl

/-- The outside world's choice changes nothing the host's duties speak of. -/
@[simp] theorem hostProper_takeChoice (w : Word32) (s : State) : hostProper w (takeChoice s) = hostProper w s := by
  unfold takeChoice; split <;> rfl

/-- Settles O48. -/
theorem properHostsStaySafe : Obligations.ProperHostsStaySafe := by
  intro s t hs hproper h
  have hfault : t.fault = false :=
    (step_cases h).fault (by simpa [State.safe] using hs) (by simpa using hproper)
  simp [State.safe, hfault]

/-! ### After a sticky fault -/

/-- Settles O49: in IDLE only reset, a register read and the accept of a word do anything, and the port is not ready. -/
theorem faultIsStickyUntilReset : Obligations.FaultIsStickyUntilReset := by
  intro s t hfault hp hreset h
  rcases (step_cases h).idle (by simp [hp]) hreset with rfl | ⟨n, rfl⟩ | ⟨w, -, hr, -⟩
  · rw [takeChoice]; split <;> rfl
  · rw [takeChoice]; split <;> rfl
  · simp [State.ready, hfault] at hr

end Sys2Proof.Machine
end

section
/-! PROOFS. How operations in progress end (O36): the script that ends one, built step by moving step along the measure
of O35, and the end of one in a fair behaviour, where the measure cannot stay as it is for ever. -/

namespace Sys2Proof.Machine

open Host (Outcome)

/-! ### The end of an operation -/

theorem storeFrame_done {f : Frame} {s : State} (h : (storeFrame f s).ph = .idle) : (storeFrame f s).done = true := by
  by_cases hopr : s.opr = 0x10
  · rw [storeFrame_transact f hopr]
  · rw [storeFrame_composite f hopr] at h; cases h

theorem afterRead_done {a : ReadAnswer} {s : State} (h : (afterRead a s).ph = .idle) : (afterRead a s).done = true := by
  rcases afterRead_cases s a with ⟨f, hf⟩ | ⟨c, d, hc⟩
  · rw [hf] at h ⊢; exact storeFrame_done h
  · rw [hc, raiseComm_done]

theorem checkFrame_done {s : State} (h : (checkFrame s).ph = .idle) : (checkFrame s).done = true := by
  cases hvalid : frameValid s.fb with
  | true => rw [checkFrame_valid hvalid] at h; cases h
  | false => rw [checkFrame_invalid hvalid, raiseComm_done]

theorem deliverFrame_done (s : State) : (deliverFrame s).done = true := by
  rw [deliverFrame]; split <;> rfl

/-- A step that brings an operation in progress to IDLE ends it, or is reset (R122, R142). -/
theorem StepCase.done {s t : State} {e : Event} (h : StepCase s e t) (hbusy : s.ph ≠ .idle) (ht : t.ph = .idle) :
    t.done = true ∨ e = .reset := by
  cases h with
  | nothing | readReg _ | tick _ _ => exact absurd ht hbusy
  | accept _ _ hr | illegal _ _ hr => exact absurd ((ready_iff s).1 hr).1 hbusy
  | reset => exact .inr rfl
  | wake a hp => simp at ht
  | command a hp =>
    cases a with
    | ok => cases ht
    | err d => exact .inl rfl
  | settleExit hp h0 => cases ht
  | read a hp => exact .inl (afterRead_done ht)
  | check hp => exact .inl (checkFrame_done ht)
  | decode hp => exact .inl (deliverFrame_done s)

/-! ### A script that ends an operation -/

theorem storeFrame_set_script (f : Frame) (s : State) (script : List Event) :
    storeFrame f { s with script := script } = { storeFrame f s with script := script } := by
  by_cases h : s.opr = 0x10
  · rw [storeFrame_transact f h, storeFrame_transact f (by exact h)]
  · rw [storeFrame_composite f h, storeFrame_composite f (by exact h)]

theorem afterRead_set_script (a : ReadAnswer) (s : State) (script : List Event) :
    afterRead a { s with script := script } = { afterRead a s with script := script } := by
  cases a with
  | err d => rfl
  | ok bytes =>
    by_cases hlen : bytes.length = 8
    · rw [afterRead_ok hlen, afterRead_ok hlen, storeFrame_set_script]
    · rw [afterRead_length hlen, afterRead_length hlen]; rfl

theorem checkFrame_set_script (s : State) (script : List Event) :
    checkFrame { s with script := script } = { checkFrame s with script := script } := by
  simp only [checkFrame]; split <;> rfl

theorem deliverFrame_set_script (s : State) (script : List Event) :
    deliverFrame { s with script := script } = { deliverFrame s with script := script } := by
  simp only [deliverFrame]; split <;> rfl

/-- What an event does, a word on the port left aside, does not depend on the outside world's next choices. -/
theorem takeEvent_set_script {s t : State} {e : Event} (he : ∀ w, e ≠ .present w) (h : takeEvent e s = .next t)
    (script : List Event) : takeEvent e { s with script := script } = .next { t with script := script } := by
  cases e with
  | present w => exact absurd rfl (he w)
  | wake a => cases h; cases a <;> simp only [takeEvent, wakeStep] <;> split <;> rfl
  | command a => cases h; cases a <;> simp only [takeEvent, commandStep] <;> split <;> rfl
  | settleExit => cases h; simp only [takeEvent, settleExitStep]; split <;> rfl
  | read a =>
    cases h
    simp only [takeEvent, readStep]
    split
    · exact congrArg Outcome.next (afterRead_set_script a (logCall readCall s) script)
    · rfl
  | check =>
    cases h
    simp only [takeEvent, checkStep]
    split
    · exact congrArg Outcome.next (checkFrame_set_script s script)
    · rfl
  | decode =>
    cases h
    simp only [takeEvent, decodeStep]
    split
    · exact congrArg Outcome.next (deliverFrame_set_script s script)
    · rfl
  | tick => cases h; simp only [takeEvent, tickStep]; split <;> rfl
  | readReg n => cases h; rfl
  | reset => cases h; rfl

/-- From `s` the choices of `script`, no reset and no word among them, end the operation in progress. -/
structure EndsBy (script : List Event) (s : State) : Prop where
  noReset : .reset ∉ script
  noWord : ∀ w, .present w ∉ script
  ends : ∃ t, run script.length { s with script := script } = .next t ∧ t.ph = .idle ∧ t.done = true

theorem endsBy_nil {s : State} (hp : s.ph = .idle) (hdone : s.done = true) : EndsBy [] s :=
  ⟨List.not_mem_nil, fun _ => List.not_mem_nil, _, rfl, hp, hdone⟩

theorem EndsBy.cons {s t : State} {e : Event} {script : List Event} (h : EndsBy script t) (hreset : e ≠ .reset)
    (hword : ∀ w, e ≠ .present w) (hstep : takeEvent e s = .next t) : EndsBy (e :: script) s where
  noReset := List.not_mem_cons_of_ne_of_not_mem hreset.symm h.noReset
  noWord w := List.not_mem_cons_of_ne_of_not_mem (hword w).symm (h.noWord w)
  ends := by
    obtain ⟨u, hrun, hu⟩ := h.ends
    have hfirst : step { s with script := e :: script } = .next { t with script := script } :=
      (step_cons rfl).trans (takeEvent_set_script hword hstep script)
    exact ⟨u, (run_succ hfirst).trans hrun, hu⟩

/-- Each moving step lowers the measure, so the measure bounds a script that ends the operation (R180). -/
theorem exists_endsBy {s : State} (hbusy : s.ph ≠ .idle) :
    ∃ script, script.length ≤ s.remaining ∧ EndsBy script s := by
  induction hn : s.remaining using Nat.strong_induction_on generalizing s with
  | _ n ih =>
    obtain ⟨e, hreset, hword, t, h, hmoved⟩ := exists_moving_step rfl hbusy s.script
    have hstep : takeEvent e s = .next t := (step_cons (s := { s with script := e :: s.script }) rfl).symm.trans h
    have hcase := takeEvent_cases hstep
    have hlt : t.remaining < n := hn ▸ (hcase.remaining hbusy hreset).resolve_right hmoved
    by_cases ht : t.ph = .idle
    · have hdone := (hcase.done hbusy ht).resolve_right hreset
      exact ⟨[e], Nat.lt_of_le_of_lt (Nat.zero_le _) hlt, (endsBy_nil ht hdone).cons hreset hword hstep⟩
    · obtain ⟨script, hlen, hends⟩ := ih _ hlt ht rfl
      exact ⟨e :: script, Nat.lt_of_le_of_lt hlen hlt, hends.cons hreset hword hstep⟩

/-! ### Fair behaviours -/

theorem ph_of_engineEnabled {s : State} {p : Phase} (h : s.engineEnabled p = true) : s.ph = p := by
  cases p <;> simp_all [State.engineEnabled]

/-- The engine's step of a phase leaves the phase, once it is enabled (R113 to R118). -/
theorem engineStep_ph_ne {s t : State} {p : Phase} {e : Event} (he : e.isEngineStep p = true)
    (hen : s.engineEnabled p = true) (h : takeEvent e s = .next t) : t.ph ≠ p := by
  have hp := ph_of_engineEnabled hen
  unfold Event.isEngineStep at he
  -- The engine's steps in the order of the phases, then no engine step at all.
  split at he
  next a => cases h; simp [wakeStep, hp]
  next a =>
    cases h; rcases afterCommand_ph (logCall (commandCall s) s) a with ht | ht <;> simp [commandStep, hp, ht]
  next =>
    have h0 : s.tmr = 0 := by simpa [State.engineEnabled, hp] using hen
    cases h; simp [settleExitStep, hp, h0]
  next a => cases h; rcases afterRead_ph (logCall readCall s) a with ht | ht <;> simp [readStep, hp, ht]
  next => cases h; rcases checkFrame_ph s with ht | ht <;> simp [checkStep, hp, ht]
  next => cases h; simp [decodeStep, hp]
  next => cases he

/-- A tick of the wait in SETTLE changes the timer (R123). -/
theorem tick_tmr_ne {s t : State} (hp : s.ph = .settle) (h0 : s.tmr ≠ 0) (h : takeEvent .tick s = .next t) :
    t.tmr ≠ s.tmr := by
  cases h
  rw [tickStep, if_pos ⟨hp, by bv_omega⟩]
  show s.tmr - 1 ≠ s.tmr
  bv_omega

/-- Outside IDLE the engine's step is enabled, but for the wait of SETTLE (R110). -/
theorem engineEnabled_of_busy {s : State} (hbusy : s.ph ≠ .idle) (hwait : ¬(s.ph = .settle ∧ s.tmr ≠ 0)) :
    s.engineEnabled s.ph = true := by
  cases hp : s.ph <;> simp_all [State.engineEnabled]

section

variable {w : Nat → Event} {σ : Nat → State} {k : Nat}

/-- Fairness moves an operation in progress: `PH` and `TMR` do not stay as they are. -/
theorem Fair.exists_moved (hfair : Fair w σ) (hb : Behaviour w σ) (hbusy : (σ k).ph ≠ .idle) :
    ∃ j, k ≤ j ∧ ¬((σ j).ph = (σ k).ph ∧ (σ j).tmr = (σ k).tmr) := by
  by_contra hno
  have hstuck : ∀ j, k ≤ j → (σ j).ph = (σ k).ph ∧ (σ j).tmr = (σ k).tmr := by simpa using hno
  by_cases hwait : (σ k).ph = .settle ∧ (σ k).tmr ≠ 0
  · obtain ⟨hp, h0⟩ := hwait
    obtain ⟨j, hj, htick⟩ := hfair.ticks k fun j hj => (hstuck j hj).1.trans hp
    obtain ⟨hpj, htj⟩ := hstuck j hj
    exact tick_tmr_ne (s := { σ j with script := [] }) (hpj.trans hp) (htj ▸ h0) (htick ▸ behaviour_step hb j)
      ((hstuck (j + 1) (by omega)).2.trans htj.symm)
  · have hen : ∀ j, k ≤ j → (σ j).engineEnabled (σ k).ph = true := fun j hj => by
      obtain ⟨hpj, htj⟩ := hstuck j hj
      rw [← hpj]
      exact engineEnabled_of_busy (hpj ▸ hbusy) (by rwa [hpj, htj])
    obtain ⟨j, hj, hengine⟩ := hfair.engine (σ k).ph k hen
    exact engineStep_ph_ne (s := { σ j with script := [] }) hengine (hen j hj) (behaviour_step hb j)
      (hstuck (j + 1) (by omega)).1

/-- An operation that never reaches IDLE meets no reset, and its measure falls unless `PH` and `TMR` stay (R121). -/
theorem Behaviour.remaining_lt_or_same (hb : Behaviour w σ) (hbusy : ∀ j, k ≤ j → (σ j).ph ≠ .idle) {j : Nat}
    (hj : k ≤ j) :
    (σ j).remaining < (σ k).remaining ∨ ((σ j).ph = (σ k).ph ∧ (σ j).tmr = (σ k).tmr) := by
  induction j, hj using Nat.le_induction with
  | base => exact .inr ⟨rfl, rfl⟩
  | succ j hj ih =>
    have hreset : w j ≠ .reset := fun hreset => by
      have hstep := behaviour_step hb j
      rw [hreset] at hstep
      exact hbusy (j + 1) (by omega) (by rw [← Outcome.next.inj hstep]; rfl)
    have hle : (σ j).remaining ≤ (σ k).remaining := ih.elim le_of_lt fun ⟨hp, ht⟩ => (remaining_congr hp ht).le
    rcases (behaviour_cases hb j).remaining (hbusy j hj) hreset with hlt | ⟨hp, ht⟩
    · exact .inl (lt_of_lt_of_le hlt hle)
    · exact ih.imp (lt_of_eq_of_lt (remaining_congr hp ht)) fun ⟨hp', ht'⟩ => ⟨hp.trans hp', ht.trans ht'⟩

/-- A measure that keeps falling reaches its end: every fair behaviour comes back to IDLE (R180). -/
theorem Fair.exists_idle (hfair : Fair w σ) (hb : Behaviour w σ) (k : Nat) : ∃ j, k ≤ j ∧ (σ j).ph = .idle := by
  by_contra hno
  have hbusy : ∀ j, k ≤ j → (σ j).ph ≠ .idle := by simpa using hno
  clear hno
  induction hn : (σ k).remaining using Nat.strong_induction_on generalizing k with
  | _ n ih =>
    obtain ⟨j, hj, hmoved⟩ := hfair.exists_moved hb (hbusy k le_rfl)
    have hlt := (hb.remaining_lt_or_same hbusy hj).resolve_right hmoved
    exact ih _ (hn ▸ hlt) j (fun i hi => hbusy i (hj.trans hi)) rfl

/-- The first return to IDLE ends the operation, or is a reset. -/
theorem Behaviour.exists_end (hb : Behaviour w σ) (hbusy : (σ k).ph ≠ .idle) {j : Nat} (hj : k ≤ j)
    (hidle : (σ j).ph = .idle) : ∃ m, k ≤ m ∧ (σ (m + 1)).ph = .idle ∧ ((σ (m + 1)).done = true ∨ w m = .reset) := by
  induction j, hj using Nat.le_induction with
  | base => exact absurd hidle hbusy
  | succ m hm ih =>
    by_cases hp : (σ m).ph = .idle
    · exact ih hp
    · exact ⟨m, hm, hidle, (behaviour_cases hb m).done hp hidle⟩

end

/-- Settles O36: the measure bounds a script that ends the operation, and fairness makes the measure fall until IDLE. -/
theorem everyOperationCanEnd : Obligations.EveryOperationCanEnd := by
  refine ⟨fun s hbusy => ?_, fun w σ k hb hfair hbusy => ?_⟩
  · obtain ⟨script, hlen, hends⟩ := exists_endsBy hbusy
    exact ⟨script, hlen, hends.noReset, hends.noWord, hends.ends⟩
  · obtain ⟨j, hj, hidle⟩ := hfair.exists_idle hb k
    obtain ⟨m, hm, hend, hdone⟩ := hb.exists_end hbusy hj hidle
    exact ⟨m + 1, by omega, hend, hdone.imp_right fun hreset => ⟨m, hm, by omega, hreset⟩⟩

end Sys2Proof.Machine
end
